-- ==== Sys2Proof/Word.lean ====
section
/-!
DEFINITION. The words of the block: bytes, operation words, route words (30_encoding.md R71, R79).
-/
namespace Sys2Proof

/-- One byte: a cell of the non-volatile store (20_memory.md R50) or a MIDI byte (45_collaborators.md R171). -/
abbrev Byte := BitVec 8

/-- The 32-bit operation word (30_encoding.md R71). -/
abbrev OpWord := BitVec 32

/-- The 5-bit route word `{mode, ev}` (30_encoding.md R79). -/
abbrev RouteWord := BitVec 5

/-- The switch inputs as one step samples them, bit 0 Up, bit 1 Down, bit 2 Mode, 1 = asserted
(30_encoding.md R73, R74). -/
abbrev Pins := BitVec 3

end Sys2Proof
end

