-- ==== Sys2Proof/Syntax.lean ====
section
/-!
DEFINITION. The closed sets of the block (roles, events, modes, switch states) and its instruction type: one
constructor for each row of spec/opcode_table.json (30_encoding.md R70, R80).
-/
namespace Sys2Proof

/-- The logical switches (30_encoding.md R75). -/
inductive Role where
  | up
  | down
  | mode
deriving DecidableEq, Repr, Inhabited

/-- The events a scan returns (30_encoding.md R76). -/
inductive Event where
  | none
  | up
  | down
  | mode
deriving DecidableEq, Repr, Inhabited

/-- The five modes of the mode state machine (30_encoding.md R77, 44_mode_fsm.md R130). -/
inductive Mode where
  | startupConfig
  | configChannel
  | configDisplay
  | normal
  | mode2
deriving DecidableEq, Repr, Inhabited

/-- The states of one switch's debounce machine (30_encoding.md R78, 42_debounce.md R100). -/
inductive SwitchState where
  | released
  | pressedUnconfirmed
  | pressedConfirmed
deriving DecidableEq, Repr, Inhabited

/-- The twelve operations and the twenty routes (30_encoding.md R70). An operation is one atomic step of one agent;
a route is the FSM's reaction to one event in one mode, performed inside EVENT and FSTEP. -/
inductive Instr where
  | tick
  | dload (n : BitVec 16)
  | dwait
  | sbegin (timeout : BitVec 16) (ar : Bool)
  | eval (pins : Pins)
  | pend
  | fstart
  | fstop
  | act
  | boot
  | event (ev : Event)
  | fstep (pins : Pins)
  | routeStartupConfigNone
  | routeStartupConfigUp
  | routeStartupConfigDown
  | routeStartupConfigMode
  | routeConfigChannelNone
  | routeConfigChannelUp
  | routeConfigChannelDown
  | routeConfigChannelMode
  | routeConfigDisplayNone
  | routeConfigDisplayUp
  | routeConfigDisplayDown
  | routeConfigDisplayMode
  | routeNormalNone
  | routeNormalUp
  | routeNormalDown
  | routeNormalMode
  | routeMode2None
  | routeMode2Up
  | routeMode2Down
  | routeMode2Mode
deriving DecidableEq, Repr

end Sys2Proof
end

