-- ==== Sys2Proof/Config.lean ====
section
/-!
DEFINITION. The implementation parameters of Table P (00_scope.md R6) and the free values of the environment
(93_implementation_defined.md U3 to U6).
-/
namespace Sys2Proof

/-- `SCAN_ORDER`, the fixed priority order of the three logical switches (00_scope.md R6, D11). -/
structure ScanOrder where
  first : Role
  second : Role
  third : Role
deriving DecidableEq, Repr

/-- The parameters of Table P (00_scope.md R6). Each is OPEN and fixed for the lifetime of an assembled block; the 16-bit,
8-bit and 14-bit types carry the size bounds of R7 (a), (c), (d) and (f), `Config.wellFormed` the others. -/
structure Config where
  /-- `W`, the width of `ms` and of every timestamp. -/
  width : Nat
  /-- `N_PHYS`, the number of physical switches. -/
  nPhys : Nat
  debounceMs : BitVec 16
  slowMs : BitVec 16
  fastMs : BitVec 16
  accelMs : BitVec 16
  scanOrder : ScanOrder
  /-- `AR_ROLES`, the switches autorepeat applies to, as a list read as a set. -/
  arRoles : List Role
  flashToggleMs : BitVec 16
  intMin : BitVec 8
  intMax : BitVec 8
  startupWaitMs : BitVec 16
  configIdleMs : BitVec 16
  /-- `MAX_PATCH[0..4]`, the largest patch number of each range. -/
  maxPatch : Vector (BitVec 14) 5
  bankSwitch : Bool
  extIndicator : Bool
  restoreLast : Bool
  activityMs : BitVec 16
deriving DecidableEq, Repr

/-- `N_RANGES` (00_scope.md R6): fixed. -/
abbrev Config.nRanges : Nat := 5

/-- The test configuration TC1, the one assignment the spec writes out (00_scope.md R6, column TC1). DESIGN CHOICE: it is
the assignment of `State.reset`, log entry 1. -/
def Config.tc1 : Config where
  width := 32
  nPhys := 3
  debounceMs := 20
  slowMs := 500
  fastMs := 100
  accelMs := 2000
  scanOrder := { first := .up, second := .down, third := .mode }
  arRoles := [.up, .down, .mode]
  flashToggleMs := 250
  intMin := 1
  intMax := 15
  startupWaitMs := 100
  configIdleMs := 3000
  maxPatch := #v[127, 255, 383, 511, 999]
  bankSwitch := false
  extIndicator := false
  restoreLast := false
  activityMs := 50

/-- What the device reports of one byte write: the read-back agrees, or the byte that stands there instead
(20_memory.md R53). -/
inductive WriteOutcome where
  | ok
  | fail (b : Byte)
deriving DecidableEq, Repr, Inhabited

/-- FREE VALUE: the outcome of the n-th drawn byte write; nothing constrains it (20_memory.md R53, 45_collaborators.md
R177; log entry 6). -/
opaque Config.writeOutcome : Nat → WriteOutcome

/-- FREE VALUE: what the environment does at the n-th drawn step of a block that runs by itself: `none`, agent INT takes
the step; `some pins`, agent MAIN does, with these pins sampled (00_scope.md R8, R9; 30_encoding.md R74; log entry 5). -/
opaque Config.environment : Nat → Option Pins

end Sys2Proof
end

