-- ==== Sys2Proof/WellFormed.lean ====
section
/-!
DEFINITION. The checks on terms the machine is given: a parameter assignment (00_scope.md R7, Table P) and a stimulus script's
instructions (30_encoding.md R70). The operands of an instruction need no check of their own: their types are the operand
fields' widths (30_encoding.md R73).
-/
namespace Sys2Proof

/-- A permutation of (Up, Down, Mode): three different roles (00_scope.md R6, `SCAN_ORDER`). -/
def ScanOrder.wellFormed (o : ScanOrder) : Bool :=
  o.first != o.second && o.second != o.third && o.first != o.third

/-- The constraints every parameter assignment must meet (00_scope.md R7 (a) to (f), and the value sets of Table P). -/
def Config.wellFormed (c : Config) : Bool :=
  decide (16 ≤ c.width)
    && (c.nPhys == 2 || c.nPhys == 3)
    && decide (c.fastMs.toNat < c.slowMs.toNat)
    && decide (1 ≤ c.flashToggleMs.toNat)
    && decide (c.intMin.toNat < c.intMax.toNat)
    && decide (c.debounceMs.toNat + 1 < c.startupWaitMs.toNat)
    && decide (1 ≤ c.activityMs.toNat)
    && c.scanOrder.wellFormed

/-- The twelve operations, which a word or a script may name; a route "is never issued by itself" (30_encoding.md R70). -/
def Instr.isOperation : Instr → Bool
  | .tick | .dload _ | .dwait | .sbegin _ _ | .eval _ | .pend => true
  | .fstart | .fstop | .act | .boot | .event _ | .fstep _ => true
  | .routeStartupConfigNone | .routeStartupConfigUp | .routeStartupConfigDown | .routeStartupConfigMode => false
  | .routeConfigChannelNone | .routeConfigChannelUp | .routeConfigChannelDown | .routeConfigChannelMode => false
  | .routeConfigDisplayNone | .routeConfigDisplayUp | .routeConfigDisplayDown | .routeConfigDisplayMode => false
  | .routeNormalNone | .routeNormalUp | .routeNormalDown | .routeNormalMode => false
  | .routeMode2None | .routeMode2Up | .routeMode2Down | .routeMode2Mode => false

/-- A stimulus script holds operations only (30_encoding.md R70, R83). -/
def scriptWellFormed (ops : List Instr) : Bool :=
  ops.all Instr.isOperation

end Sys2Proof
end

