-- ==== Sys2Proof/Decode.lean ====
section
/-!
DEFINITION. Codes of the closed sets, the decoder of operation words and route words, the encoder, and the opcode map
(30_encoding.md R71 to R81). The block fetches no bytes and its operation word has no byte order (10_state.md R24, 20_memory.md
section 7): the decoder reads the 32-bit word itself.
-/
namespace Sys2Proof

/-- The index of a logical switch (30_encoding.md R75). -/
def Role.index : Role → Nat
  | .up => 0
  | .down => 1
  | .mode => 2

/-- The event of a logical switch: index + 1 (30_encoding.md R76). -/
def Role.event : Role → Event
  | .up => .up
  | .down => .down
  | .mode => .mode

/-- Event codes (30_encoding.md R76). -/
def Event.code : Event → BitVec 2
  | .none => 0
  | .up => 1
  | .down => 2
  | .mode => 3

/-- The event of a 2-bit code; all four codes are used (30_encoding.md R76). -/
def Event.ofCode (c : BitVec 2) : Event :=
  if c = 0 then .none else if c = 1 then .up else if c = 2 then .down else .mode

/-- Mode codes (30_encoding.md R77). -/
def Mode.code : Mode → BitVec 3
  | .startupConfig => 0
  | .configChannel => 1
  | .configDisplay => 2
  | .normal => 3
  | .mode2 => 4

/-- The mode of a 3-bit code; 5, 6 and 7 are reserved (30_encoding.md R77). -/
def Mode.ofCode (c : BitVec 3) : Option Mode :=
  if c = 0 then some .startupConfig
  else if c = 1 then some .configChannel
  else if c = 2 then some .configDisplay
  else if c = 3 then some .normal
  else if c = 4 then some .mode2
  else none

/-- Switch-state codes; 3 is reserved (30_encoding.md R78). -/
def SwitchState.code : SwitchState → BitVec 2
  | .released => 0
  | .pressedUnconfirmed => 1
  | .pressedConfirmed => 2

/-- The route constructor of a mode and an event (30_encoding.md R80, the route table). -/
def Instr.ofRoute : Mode → Event → Instr
  | .startupConfig, .none => .routeStartupConfigNone
  | .startupConfig, .up => .routeStartupConfigUp
  | .startupConfig, .down => .routeStartupConfigDown
  | .startupConfig, .mode => .routeStartupConfigMode
  | .configChannel, .none => .routeConfigChannelNone
  | .configChannel, .up => .routeConfigChannelUp
  | .configChannel, .down => .routeConfigChannelDown
  | .configChannel, .mode => .routeConfigChannelMode
  | .configDisplay, .none => .routeConfigDisplayNone
  | .configDisplay, .up => .routeConfigDisplayUp
  | .configDisplay, .down => .routeConfigDisplayDown
  | .configDisplay, .mode => .routeConfigDisplayMode
  | .normal, .none => .routeNormalNone
  | .normal, .up => .routeNormalUp
  | .normal, .down => .routeNormalDown
  | .normal, .mode => .routeNormalMode
  | .mode2, .none => .routeMode2None
  | .mode2, .up => .routeMode2Up
  | .mode2, .down => .routeMode2Down
  | .mode2, .mode => .routeMode2Mode

/-- Why a word names no instruction (30_encoding.md R79, R81). -/
inductive DecodeError where
  /-- `op` is not one of the twelve (R81). -/
  | unassignedOp (op : BitVec 8)
  /-- A bit the format marks 0 is 1 (R81). -/
  | reservedBitSet (w : OpWord)
  /-- A route word with `mode` in 5..7 (R79). -/
  | reservedRoute (r : RouteWord)
deriving DecidableEq, Repr

/-- `op = w[31:24]` (30_encoding.md R71). -/
def opField (w : OpWord) : BitVec 8 := w.extractLsb' 24 8

/-- `n` and `to`, `w[15:0]` (30_encoding.md R73). -/
def lowHalf (w : OpWord) : BitVec 16 := w.extractLsb' 0 16

/-- `ar = w[16]` (30_encoding.md R73). -/
def arField (w : OpWord) : Bool := w.getLsbD 16

/-- `pins = w[2:0]` (30_encoding.md R73). -/
def pinsField (w : OpWord) : Pins := w.extractLsb' 0 3

/-- `ev = w[1:0]` (30_encoding.md R73). -/
def evField (w : OpWord) : BitVec 2 := w.extractLsb' 0 2

/-- Format N: bits 23:0 are reserved (30_encoding.md R72). -/
def formatN (w : OpWord) (i : Instr) : Except DecodeError Instr :=
  if w.extractLsb' 0 24 = 0 then .ok i else .error (.reservedBitSet w)

/-- Format D: bits 23:16 are reserved (30_encoding.md R72). -/
def formatD (w : OpWord) : Except DecodeError Instr :=
  if w.extractLsb' 16 8 = 0 then .ok (.dload (lowHalf w)) else .error (.reservedBitSet w)

/-- Format S: bits 23:17 are reserved (30_encoding.md R72). -/
def formatS (w : OpWord) : Except DecodeError Instr :=
  if w.extractLsb' 17 7 = 0 then .ok (.sbegin (lowHalf w) (arField w)) else .error (.reservedBitSet w)

/-- Format P, of EVAL: bits 23:3 are reserved (30_encoding.md R72). -/
def formatPEval (w : OpWord) : Except DecodeError Instr :=
  if w.extractLsb' 3 21 = 0 then .ok (.eval (pinsField w)) else .error (.reservedBitSet w)

/-- Format P, of FSTEP: bits 23:3 are reserved (30_encoding.md R72). -/
def formatPFstep (w : OpWord) : Except DecodeError Instr :=
  if w.extractLsb' 3 21 = 0 then .ok (.fstep (pinsField w)) else .error (.reservedBitSet w)

/-- Format E: bits 23:2 are reserved (30_encoding.md R72). -/
def formatE (w : OpWord) : Except DecodeError Instr :=
  if w.extractLsb' 2 22 = 0 then .ok (.event (Event.ofCode (evField w))) else .error (.reservedBitSet w)

/-- The decoder of operation words: `op` selects the operation and its format (30_encoding.md R71, R80); an illegal word is
rejected by name (R81). -/
def decodeOp (w : OpWord) : Except DecodeError Instr :=
  if opField w = 0x01 then formatN w .tick
  else if opField w = 0x02 then formatD w
  else if opField w = 0x03 then formatN w .dwait
  else if opField w = 0x10 then formatS w
  else if opField w = 0x11 then formatPEval w
  else if opField w = 0x12 then formatN w .pend
  else if opField w = 0x20 then formatN w .fstart
  else if opField w = 0x21 then formatN w .fstop
  else if opField w = 0x22 then formatN w .act
  else if opField w = 0x30 then formatN w .boot
  else if opField w = 0x31 then formatE w
  else if opField w = 0x32 then formatPFstep w
  else .error (.unassignedOp (opField w))

/-- The route word of a mode code and an event (30_encoding.md R79). -/
def routeWord (mode : BitVec 3) (ev : Event) : RouteWord := mode ++ ev.code

/-- The decoder of route words (30_encoding.md R79, R80; the twelve words with `mode` in 5..7 are reserved). -/
def decodeRoute (r : RouteWord) : Except DecodeError Instr :=
  match Mode.ofCode (r.extractLsb' 2 3) with
  | some m => .ok (Instr.ofRoute m (Event.ofCode (r.extractLsb' 0 2)))
  | none => .error (.reservedRoute r)

/-- What an instruction is encoded as: an operation word, or the route word that is internal to EVENT and FSTEP
(30_encoding.md R71, R79). -/
inductive Code where
  | op (w : OpWord)
  | route (r : RouteWord)
deriving DecidableEq, Repr

/-- The decoder of both kinds of word. -/
def decode : Code → Except DecodeError Instr
  | .op w => decodeOp w
  | .route r => decodeRoute r

/-- The encoder: `op` and the operand fields of the formats of 30_encoding.md R72, the values of R80. -/
def encode : Instr → Code
  | .tick => .op 0x01000000
  | .dload n => .op (0x02#8 ++ 0#8 ++ n)
  | .dwait => .op 0x03000000
  | .sbegin timeout ar => .op (0x10#8 ++ 0#7 ++ BitVec.ofBool ar ++ timeout)
  | .eval pins => .op (0x11#8 ++ 0#21 ++ pins)
  | .pend => .op 0x12000000
  | .fstart => .op 0x20000000
  | .fstop => .op 0x21000000
  | .act => .op 0x22000000
  | .boot => .op 0x30000000
  | .event ev => .op (0x31#8 ++ 0#22 ++ ev.code)
  | .fstep pins => .op (0x32#8 ++ 0#21 ++ pins)
  | .routeStartupConfigNone => .route 0b00000
  | .routeStartupConfigUp => .route 0b00001
  | .routeStartupConfigDown => .route 0b00010
  | .routeStartupConfigMode => .route 0b00011
  | .routeConfigChannelNone => .route 0b00100
  | .routeConfigChannelUp => .route 0b00101
  | .routeConfigChannelDown => .route 0b00110
  | .routeConfigChannelMode => .route 0b00111
  | .routeConfigDisplayNone => .route 0b01000
  | .routeConfigDisplayUp => .route 0b01001
  | .routeConfigDisplayDown => .route 0b01010
  | .routeConfigDisplayMode => .route 0b01011
  | .routeNormalNone => .route 0b01100
  | .routeNormalUp => .route 0b01101
  | .routeNormalDown => .route 0b01110
  | .routeNormalMode => .route 0b01111
  | .routeMode2None => .route 0b10000
  | .routeMode2Up => .route 0b10001
  | .routeMode2Down => .route 0b10010
  | .routeMode2Mode => .route 0b10011

/-- One row of the opcode map: a word names the row's operation when `w & mask = pattern` (30_encoding.md R80). -/
structure OpcodeRow where
  mnemonic : String
  pattern : OpWord
  mask : OpWord
deriving DecidableEq, Repr

/-- `w & mask = match` (30_encoding.md R80). -/
def OpcodeRow.names (row : OpcodeRow) (w : OpWord) : Bool := w &&& row.mask == row.pattern

/-- The opcode map (30_encoding.md R80, opcode_table.json). -/
def opcodeTable : List OpcodeRow :=
  [ ⟨"TICK", 0x01000000, 0xFFFFFFFF⟩, ⟨"DLOAD", 0x02000000, 0xFFFF0000⟩, ⟨"DWAIT", 0x03000000, 0xFFFFFFFF⟩,
    ⟨"SBEGIN", 0x10000000, 0xFFFE0000⟩, ⟨"EVAL", 0x11000000, 0xFFFFFFF8⟩, ⟨"PEND", 0x12000000, 0xFFFFFFFF⟩,
    ⟨"FSTART", 0x20000000, 0xFFFFFFFF⟩, ⟨"FSTOP", 0x21000000, 0xFFFFFFFF⟩, ⟨"ACT", 0x22000000, 0xFFFFFFFF⟩,
    ⟨"BOOT", 0x30000000, 0xFFFFFFFF⟩, ⟨"EVENT", 0x31000000, 0xFFFFFFFC⟩, ⟨"FSTEP", 0x32000000, 0xFFFFFFF8⟩ ]

/-- The mnemonic of spec/opcode_table.json. -/
def Instr.mnemonic : Instr → String
  | .tick => "TICK"
  | .dload _ => "DLOAD"
  | .dwait => "DWAIT"
  | .sbegin _ _ => "SBEGIN"
  | .eval _ => "EVAL"
  | .pend => "PEND"
  | .fstart => "FSTART"
  | .fstop => "FSTOP"
  | .act => "ACT"
  | .boot => "BOOT"
  | .event _ => "EVENT"
  | .fstep _ => "FSTEP"
  | .routeStartupConfigNone => "ROUTE.StartupConfig.NONE"
  | .routeStartupConfigUp => "ROUTE.StartupConfig.UP"
  | .routeStartupConfigDown => "ROUTE.StartupConfig.DOWN"
  | .routeStartupConfigMode => "ROUTE.StartupConfig.MODE"
  | .routeConfigChannelNone => "ROUTE.ConfigChannel.NONE"
  | .routeConfigChannelUp => "ROUTE.ConfigChannel.UP"
  | .routeConfigChannelDown => "ROUTE.ConfigChannel.DOWN"
  | .routeConfigChannelMode => "ROUTE.ConfigChannel.MODE"
  | .routeConfigDisplayNone => "ROUTE.ConfigDisplay.NONE"
  | .routeConfigDisplayUp => "ROUTE.ConfigDisplay.UP"
  | .routeConfigDisplayDown => "ROUTE.ConfigDisplay.DOWN"
  | .routeConfigDisplayMode => "ROUTE.ConfigDisplay.MODE"
  | .routeNormalNone => "ROUTE.Normal.NONE"
  | .routeNormalUp => "ROUTE.Normal.UP"
  | .routeNormalDown => "ROUTE.Normal.DOWN"
  | .routeNormalMode => "ROUTE.Normal.MODE"
  | .routeMode2None => "ROUTE.Mode2.NONE"
  | .routeMode2Up => "ROUTE.Mode2.UP"
  | .routeMode2Down => "ROUTE.Mode2.DOWN"
  | .routeMode2Mode => "ROUTE.Mode2.MODE"

/-- The instruction of a numbered word: a word of more than one byte is an operation word, a word of at most one byte a route
word (30_encoding.md R71, R79; log entry 11). -/
def decodeTableWord (nbits w : Nat) : Option Instr :=
  if nbits ≤ 8 then
    if w < 32 then (decodeRoute (BitVec.ofNat 5 w)).toOption else none
  else if w < 4294967296 then (decodeOp (BitVec.ofNat 32 w)).toOption
  else none

end Sys2Proof
end

