-- ==== Sys2Proof/Machine/Memory.lean ====
section
/-!
DEFINITION. The non-volatile byte store as plain data in one canonical form (20_memory.md R50 to R56).
-/
namespace Sys2Proof.Machine

open Sys2Proof

/-- The five offsets of the store; there is no other (20_memory.md R50, R51). -/
inductive NvOffset where
  | channel
  | range
  | lastHi
  | lastLo
  | zeroBased
deriving DecidableEq, Repr

/-- The numbers of the offsets (20_memory.md R51). -/
def NvOffset.addr : NvOffset → Nat
  | .channel => 0
  | .range => 1
  | .lastHi => 2
  | .lastLo => 3
  | .zeroBased => 4

/-- The offset of a number; offsets 5 and above do not exist, and an access to one is refused (20_memory.md R50). -/
def NvOffset.ofNat? : Nat → Option NvOffset
  | 0 => some .channel
  | 1 => some .range
  | 2 => some .lastHi
  | 3 => some .lastLo
  | 4 => some .zeroBased
  | _ => none

/-- The contents of the store: (offset, byte) pairs, offsets strictly rising, no byte equal to `Memory.blank`. -/
abbrev Memory := List Host.Cell

/-- What an unlisted offset reads as: "a never-programmed store is all zero" (20_memory.md R51; log entry 16). -/
def Memory.blank : Byte := 0

/-- The byte at an offset. -/
def Memory.read : Memory → Nat → Byte
  | [], _ => Memory.blank
  | (a, b) :: m, off => if off = a then b else Memory.read m off

/-- The store with one byte changed; the canonical form is kept. -/
def Memory.write : Memory → Nat → Byte → Memory
  | [], off, v => if v = Memory.blank then [] else [(off, v)]
  | (a, b) :: m, off, v =>
    if off < a then (if v = Memory.blank then (a, b) :: m else (off, v) :: (a, b) :: m)
    else if off = a then (if v = Memory.blank then m else (a, v) :: m)
    else (a, b) :: Memory.write m off v

/-- Offsets strictly rising. -/
def Memory.rising : Memory → Bool
  | [] => true
  | [_] => true
  | (a, _) :: (a', b') :: m => decide (a < a') && Memory.rising ((a', b') :: m)

/-- The canonical form: offsets strictly rising and below 5, no entry equal to what an unlisted offset reads as. -/
def Memory.wf (m : Memory) : Bool :=
  Memory.rising m && m.all (fun cell => decide (cell.1 < 5) && cell.2 != Memory.blank)

end Sys2Proof.Machine
end

