-- ==== Sys2Proof/Machine/State.lean ====
section
/-!
DEFINITION. The state of the block as plain data (10_state.md R20 to R33), the outputs it is observed by (00_scope.md R11), the
reasons a step is refused, and the state after power-on.
-/
namespace Sys2Proof.Machine

open Sys2Proof

/-- The output actions, each a call on a collaborator (00_scope.md R11). -/
inductive Action where
  | dispInit
  | dispClear
  | dispSetIntensity (level : BitVec 8)
  | dispShowChannelRange (channel : BitVec 4) (range : BitVec 3)
  | dispDrawDigit (position : Nat) (value : Nat)
  | dispShowPatch (value : Nat)
  | dispShowZeroBased (flag : Bool)
  | midiTx (byte : Byte)
  | storeUnlock
  | storeLock
  | storeRead (offset : Nat)
  | storeWrite (offset : Nat) (byte : Byte)
deriving DecidableEq, Repr

/-- The two error kinds; neither transfers control (60_exceptions.md R190 to R192). -/
inductive ErrorKind where
  | storageVerifyFailure (offset : Nat)
  | noActivationWithinTimeout
deriving DecidableEq, Repr

/-- The cause codes (60_exceptions.md R190). -/
def ErrorKind.causeCode : ErrorKind → Nat
  | .storageVerifyFailure _ => 1
  | .noActivationWithinTimeout => 2

/-- One entry of the output trace: an action emitted, or an error kind raised (00_scope.md R9, R10; 60_exceptions.md R191). -/
inductive Output where
  | action (a : Action)
  | raised (e : ErrorKind)
deriving DecidableEq, Repr

/-- One switch record (10_state.md R23): the 2-bit debounce state and two timestamps modulo `2^W`. -/
structure Switch where
  st : BitVec 2
  downSince : Nat
  firstDown : Nat
deriving DecidableEq, Repr

/-- The switch record file `sw[0..2]`: Up, Down, Mode, three entries whatever `N_PHYS` is (10_state.md R23). -/
structure SwitchFile where
  up : Switch
  down : Switch
  mode : Switch
deriving DecidableEq, Repr

/-- What Table RST leaves unspecified and a power-on therefore draws (10_state.md R33, 93_implementation_defined.md U1, U2). -/
structure ResetDraw where
  ms : Nat
  upDownSince : Nat
  upFirstDown : Nat
  downDownSince : Nat
  downFirstDown : Nat
  modeDownSince : Nat
  modeFirstDown : Nat
  scanStart : Nat
  flashCnt : BitVec 16
deriving DecidableEq, Repr

/-- The draw `State.reset` takes. DESIGN CHOICE: all zero, log entry 2. -/
def ResetDraw.zero : ResetDraw where
  ms := 0
  upDownSince := 0
  upFirstDown := 0
  downDownSince := 0
  downFirstDown := 0
  modeDownSince := 0
  modeFirstDown := 0
  scanStart := 0
  flashCnt := 0

/-- What the outside lines up for the block: an operation word (30_encoding.md R71, R83), a power cycle between two steps
(70_reset_and_hazards.md R210), or an operation that is begun and loses power after its first `k` outputs, with the power-on that
follows (20_memory.md R56; log entry 12). -/
inductive Stimulus where
  | op (w : OpWord)
  | powerCycle (d : ResetDraw)
  | powerLoss (w : OpWord) (k : Nat) (d : ResetDraw)
deriving DecidableEq, Repr

/-- The aggregate of 10_state.md R20: the registers under their names there, then the model's own fields. -/
structure State where
  /-- `ms`, W bits, kept below `2^W` (R27). -/
  ms : Nat
  /-- `delay_cnt` (R27). -/
  delayCnt : BitVec 16
  /-- `sw[0..2]` (R23). -/
  sw : SwitchFile
  /-- `scan_active` (R24). -/
  scanActive : Bool
  /-- `scan_idx` (R24). -/
  scanIdx : BitVec 2
  /-- `scan_done` (R24). -/
  scanDone : Bool
  /-- `scan_start`, W bits (R28). -/
  scanStart : Nat
  /-- `scan_timeout` (R28). -/
  scanTimeout : BitVec 16
  /-- `scan_ar` (R28). -/
  scanAr : Bool
  /-- `period_acc`: false SLOW, true FAST (R28). -/
  periodAcc : Bool
  /-- `scan_result` (R28): all four codes are events. -/
  scanResult : Event
  /-- `flash_armed` (R29). -/
  flashArmed : Bool
  /-- `flash_cnt` (R29). -/
  flashCnt : BitVec 16
  /-- `intensity` (R29). -/
  intensity : BitVec 8
  /-- `ind` (R29). -/
  ind : Bool
  /-- `act_cnt` (R29). -/
  actCnt : BitVec 16
  /-- `booted` (R24). -/
  booted : Bool
  /-- `mode` (R24), codes 30_encoding.md R77. -/
  mode : BitVec 3
  /-- `patch` (R21). -/
  patch : BitVec 14
  /-- `work` (R21). -/
  work : BitVec 14
  /-- `channel` (R21). -/
  channel : BitVec 4
  /-- `range` (R21). -/
  range : BitVec 3
  /-- `zero_based` (R21). -/
  zeroBased : Bool
  /-- `cfg_err` (R26). -/
  cfgErr : Bool
  /-- `nv[0..4]` (R30). -/
  nv : Memory
  /-- MODEL: the parameter assignment (00_scope.md R6), written by no step; log entry 1. -/
  cfg : Config
  /-- MODEL: agent MAIN is held at a DWAIT (41_time_base.md R92); log entry 8. -/
  held : Bool
  /-- MODEL: what the outside has lined up, next first; log entry 4. -/
  script : List Stimulus
  /-- MODEL: the write outcomes the outside has lined up, next first; log entry 6. -/
  outcomes : List WriteOutcome
  /-- MODEL: how many free values have been drawn; log entry 18. -/
  drawIndex : Nat
  /-- MODEL: the output trace, oldest first (00_scope.md R9); log entry 7. -/
  trace : List Output
deriving DecidableEq, Repr

/-- The block has no fault: neither error kind transfers control and there is no trap (60_exceptions.md R190, R193), so no step
raises one. Safe: there is nothing to stop where the hardware goes on. -/
inductive Fault where
deriving DecidableEq, Repr

/-- Why a step is refused: a model's verdict, not a behaviour of the block (60_exceptions.md R193). -/
inductive Refusal where
  /-- An instruction that has no meaning yet; raised by no arm. Safe. -/
  | notModelled (mnemonic : String)
  /-- The fetch: `op` is not one of the twelve (30_encoding.md R81). Safe. -/
  | unassignedOp (op : BitVec 8)
  /-- The fetch: a bit the format marks 0 is 1 (30_encoding.md R81). Safe. -/
  | reservedBitSet (w : OpWord)
  /-- The fetch: a route word with a reserved mode; no operation word decodes to one (30_encoding.md R79). Safe. -/
  | reservedRoute (r : RouteWord)
  /-- The step: the parameter assignment breaks 00_scope.md R7. Safe. -/
  | invalidParameters
  /-- DLOAD while `delay_cnt != 0` (41_time_base.md R91). Safe. -/
  | delayOutstanding
  /-- SBEGIN while `scan_active = 1` (42_debounce.md R101). Safe. -/
  | scanInProgress
  /-- EVAL without a scan or with `scan_idx = 3` (42_debounce.md R102). Safe. -/
  | noEvaluationDue
  /-- PEND without a scan or with `scan_idx != 3` (42_debounce.md R110). Safe. -/
  | iterationNotComplete
  /-- BOOT while `booted = 1` (44_mode_fsm.md R131). Safe. -/
  | alreadyBooted
  /-- EVENT while `booted = 0` or `scan_active = 1` (44_mode_fsm.md R134). Safe. -/
  | eventNotAccepted
  /-- A route that the present `mode` does not select, or that EVENT could not perform (44_mode_fsm.md R134). Safe. -/
  | routeNotSelected
  /-- EVENT, or the SBEGIN line of FSTEP, while `mode` is in 5..7 (44_mode_fsm.md R158). Safe. -/
  | reservedMode
  /-- EVENT or a route while `range` is in 5..7 (10_state.md R22, 93_implementation_defined.md U10). Safe. -/
  | reservedRange
  /-- EVAL while a switch record holds code 3 (30_encoding.md R78). Safe. -/
  | reservedSwitchState
deriving DecidableEq, Repr

/-- The refusal of a word that names no instruction. -/
def Refusal.ofDecodeError : DecodeError → Refusal
  | .unassignedOp op => .unassignedOp op
  | .reservedBitSet w => .reservedBitSet w
  | .reservedRoute r => .reservedRoute r

/-- A switch record after reset: "up, never pressed" (10_state.md R33). -/
def Switch.released (downSince firstDown : Nat) : Switch where
  st := SwitchState.released.code
  downSince := downSince
  firstDown := firstDown

/-- Power-on: every register at its value of Table RST, the unspecified ones as drawn (reduced to W bits), `nv` as it was
(10_state.md R33, 70_reset_and_hazards.md R210). -/
def State.powerOn (c : Config) (d : ResetDraw) (nv : Memory) : State where
  ms := d.ms % 2 ^ c.width
  delayCnt := 0
  sw :=
    { up := Switch.released (d.upDownSince % 2 ^ c.width) (d.upFirstDown % 2 ^ c.width)
      down := Switch.released (d.downDownSince % 2 ^ c.width) (d.downFirstDown % 2 ^ c.width)
      mode := Switch.released (d.modeDownSince % 2 ^ c.width) (d.modeFirstDown % 2 ^ c.width) }
  scanActive := false
  scanIdx := 0
  scanDone := false
  scanStart := d.scanStart % 2 ^ c.width
  scanTimeout := 0
  scanAr := false
  periodAcc := false
  scanResult := .none
  flashArmed := false
  flashCnt := d.flashCnt
  intensity := c.intMax
  ind := false
  actCnt := 0
  booted := false
  mode := Mode.startupConfig.code
  patch := 0
  work := 0
  channel := 0
  range := 0
  zeroBased := false
  cfgErr := false
  nv := nv
  cfg := c
  held := false
  script := []
  outcomes := []
  drawIndex := 0
  trace := []

/-- The block right after reset: a never-programmed store (20_memory.md R51), the test configuration (log entry 1) and zero for
what Table RST leaves unspecified (log entry 2). -/
def State.reset : State := State.powerOn Config.tc1 ResetDraw.zero []

end Sys2Proof.Machine
end

