-- ==== Sys2Proof/Machine/Operands.lean ====
section
/-!
DEFINITION. What the operations compute their operands with: elapsed time, the switch a position names, the reading of the pins,
the parameters a mode asks of its scan, and the pure functions of the routes.
-/
namespace Sys2Proof.Machine

open Sys2Proof

/-- The millisecond after `now`, modulo `2^W` (41_time_base.md R90). -/
def nextMs (width now : Nat) : Nat := (now + 1) % 2 ^ width

/-- `elapsed(now, t) = now -_W t`, the unsigned W-bit difference (00_scope.md R10, 41_time_base.md R94). -/
def elapsed (width now t : Nat) : Nat := (now % 2 ^ width + 2 ^ width - t % 2 ^ width) % 2 ^ width

/-- `SCAN_ORDER[scan_idx]` (42_debounce.md R102); read only at positions 0, 1, 2. -/
def scanRole (o : ScanOrder) (idx : BitVec 2) : Role :=
  if idx = 0 then o.first else if idx = 1 then o.second else o.third

/-- Up and Down are the physical switches of the two-switch configuration (42_debounce.md R102). -/
def isPhysical : Role → Bool
  | .up => true
  | .down => true
  | .mode => false

/-- `pins[i]` (30_encoding.md R73). -/
def pinOf (r : Role) (pins : Pins) : Bool :=
  match r with
  | .up => pins.getLsbD 0
  | .down => pins.getLsbD 1
  | .mode => pins.getLsbD 2

/-- Both physical pins read asserted. -/
def bothPins (pins : Pins) : Bool := pinOf .up pins && pinOf .down pins

/-- `asserted(i, pins)`: with two switches Mode reads the conjunction of the two pins and `pins[2]` is ignored
(42_debounce.md R102, 30_encoding.md R73). -/
def asserted (c : Config) (r : Role) (pins : Pins) : Bool :=
  match r with
  | .up => pinOf .up pins
  | .down => pinOf .down pins
  | .mode => if c.nPhys = 2 then bothPins pins else pinOf .mode pins

/-- The condition of case COMBINED: two switches, a physical one under evaluation, both pins asserted (42_debounce.md R102,
R109). -/
def combined (c : Config) (r : Role) (pins : Pins) : Bool :=
  c.nPhys == 2 && isPhysical r && bothPins pins

/-- The record of a logical switch (10_state.md R23). -/
def SwitchFile.get (f : SwitchFile) : Role → Switch
  | .up => f.up
  | .down => f.down
  | .mode => f.mode

/-- The file with one record replaced. -/
def SwitchFile.set (f : SwitchFile) (r : Role) (x : Switch) : SwitchFile :=
  match r with
  | .up => { f with up := x }
  | .down => { f with down := x }
  | .mode => { f with mode := x }

/-- `SCAN_TO[mode]` (44_mode_fsm.md R133). -/
def scanTimeoutOf (c : Config) : Mode → BitVec 16
  | .startupConfig => c.startupWaitMs
  | .configChannel => c.configIdleMs
  | .configDisplay => c.configIdleMs
  | .normal => 0
  | .mode2 => 0

/-- `SCAN_AR[mode]` (44_mode_fsm.md R133). -/
def scanArOf : Mode → Bool
  | .startupConfig => false
  | .configChannel => false
  | .configDisplay => false
  | .normal => false
  | .mode2 => true

/-- `MAX_PATCH[r]` (00_scope.md R6); there is no range 5 to 7. -/
def maxPatchOf (c : Config) (r : BitVec 3) : BitVec 14 :=
  if h : r.toNat < 5 then c.maxPatch[r.toNat] else 0

/-- `inc(p)` (44_mode_fsm.md R135). -/
def incPatch (c : Config) (r : BitVec 3) (p : BitVec 14) : BitVec 14 :=
  if (maxPatchOf c r).toNat ≤ p.toNat then 0 else p + 1

/-- `dec(p)` (44_mode_fsm.md R135). -/
def decPatch (c : Config) (r : BitVec 3) (p : BitVec 14) : BitVec 14 :=
  if p = 0 then maxPatchOf c r else p - 1

/-- `clamp(p, r)`, of a value of any width (44_mode_fsm.md R135, 45_collaborators.md R179). -/
def clampPatch (c : Config) (r : BitVec 3) (p : Nat) : BitVec 14 :=
  if p ≤ (maxPatchOf c r).toNat then BitVec.ofNat 14 p else maxPatchOf c r

/-- `shown(p)` (44_mode_fsm.md R135). -/
def shown (zeroBased : Bool) (p : BitVec 14) : Nat :=
  if zeroBased then p.toNat else p.toNat + 1

/-- The status byte of a Control-Change on a channel (45_collaborators.md R171, R172). -/
def controlChangeStatus (c : BitVec 4) : Byte := 0xB#4 ++ c

/-- The status byte of a Program-Change on a channel (45_collaborators.md R171, R172). -/
def programChangeStatus (c : BitVec 4) : Byte := 0xC#4 ++ c

/-- `P div 128` as a data byte (45_collaborators.md R171). -/
def bankByte (p : BitVec 14) : Byte := BitVec.ofNat 8 (p.toNat / 128)

/-- `P mod 128` as a data byte (45_collaborators.md R171). -/
def programByte (p : BitVec 14) : Byte := BitVec.ofNat 8 (p.toNat % 128)

/-- `zext_16(P)[15:8]` (20_memory.md R55). -/
def patchHi (p : BitVec 14) : Byte := (p.setWidth 16).extractLsb' 8 8

/-- `zext_16(P)[7:0]` (20_memory.md R55). -/
def patchLo (p : BitVec 14) : Byte := (p.setWidth 16).extractLsb' 0 8

/-- `{h, l}`, high byte first (20_memory.md R55). -/
def bigEndian (h l : Byte) : BitVec 16 := h ++ l

end Sys2Proof.Machine
end

