-- ==== Sys2Proof/Machine/Flags.lean ====
section
/-!
DEFINITION. The one-bit computations of the block. It has no arithmetic condition codes (10_state.md R25): its flags are comparisons
of elapsed times, the period accumulator, the indicator level, and the tests that decide whether the store is written.
-/
namespace Sys2Proof.Machine

open Sys2Proof

/-- The strict comparison of an elapsed time with a threshold (42_debounce.md R104, R106). -/
def exceeds (width now t : Nat) (threshold : BitVec 16) : Bool :=
  decide (threshold.toNat < elapsed width now t)

/-- The timeout test of PEND: a timeout of zero never elapses, another does at `>=` (42_debounce.md R110). -/
def timedOut (width now start : Nat) (timeout : BitVec 16) : Bool :=
  timeout != 0 && decide (timeout.toNat ≤ elapsed width now start)

/-- The period accumulator after the acceleration test, which only raises it (42_debounce.md R106). -/
def accelerated (c : Config) (now firstDown : Nat) (acc : Bool) : Bool :=
  exceeds c.width now firstDown c.accelMs || acc

/-- The repeat period the accumulator stands for (10_state.md R28, 42_debounce.md R106). -/
def periodOf (c : Config) (acc : Bool) : BitVec 16 := if acc then c.fastMs else c.slowMs

/-- Autorepeat applies to this switch in this scan (42_debounce.md R102). -/
def repeats (c : Config) (scanAr : Bool) (r : Role) : Bool := scanAr && c.arRoles.contains r

/-- A record that holds a switch state, not the reserved code 3 (30_encoding.md R78). -/
def Switch.legal (x : Switch) : Bool := x.st != 3

/-- No record of the file holds the reserved code. -/
def SwitchFile.legal (f : SwitchFile) : Bool := f.up.legal && f.down.legal && f.mode.legal

/-- A range that exists, 0 to 4 (10_state.md R22). -/
def rangeLegal (r : BitVec 3) : Bool := decide (r.toNat < Config.nRanges)

/-- The other intensity level (43_flash.md R123). -/
def toggledIntensity (c : Config) (level : BitVec 8) : BitVec 8 :=
  if level = c.intMax then c.intMin else c.intMax

/-- The indicator while armed: lit at the minimum; without an indicator `ind` stays (43_flash.md R123). -/
def indicatorAt (c : Config) (level : BitVec 8) (ind : Bool) : Bool :=
  if c.extIndicator then level == c.intMin else ind

/-- The stored flag byte: any non-zero byte is true (20_memory.md R51, 45_collaborators.md R179). -/
def flagOfByte (b : Byte) : Bool := b != 0

/-- The flag as it is stored, 0 or 1 (20_memory.md R51). -/
def byteOfFlag (f : Bool) : Byte := if f then 1 else 0

/-- Bank bytes are sent: bank switching is built in, or the range is not the default one (45_collaborators.md R171). -/
def sendsBank (c : Config) (r : BitVec 3) : Bool := c.bankSwitch || r != 0

end Sys2Proof.Machine
end

