-- ==== Sys2Proof/Machine/Ops.lean ====
section
/-!
DEFINITION. The named operations every meaning is written over: emitting an action, raising an error kind, the store primitives, the
power cycle, and fetching the next stimulus.
-/
namespace Sys2Proof.Machine

open Sys2Proof

/-- What a step answers. -/
abbrev Result := Host.Outcome State Fault Refusal

/-- A result with its next state mapped. -/
def mapNext (f : State → State) : Result → Result
  | .next t => .next (f t)
  | .fault r => .fault r
  | .refused r => .refused r

/-- `emit A(args)`: the action joins the output trace (00_scope.md R10). -/
def State.emit (s : State) (a : Action) : State := { s with trace := s.trace ++ [.action a] }

/-- Several actions, in order. -/
def State.emitAll (s : State) (as : List Action) : State := { s with trace := s.trace ++ as.map .action }

/-- `raise <Kind>(info)`: TAKING AN EXCEPTION on this block. The kind is recorded where it occurred and control goes on: there is no
vector, no saved register and no return (00_scope.md R10; 60_exceptions.md R190, R191, R197). -/
def State.raise (s : State) (e : ErrorKind) : State := { s with trace := s.trace ++ [.raised e] }

/-- The result codes of `writeByte` (45_collaborators.md R175, R176). -/
inductive WriteResult where
  | success
  | verifyFailure
deriving DecidableEq, Repr

/-- The numbers of the result codes (45_collaborators.md R176). -/
def WriteResult.code : WriteResult → Nat
  | .success => 0
  | .verifyFailure => 1

/-- The byte that stands at the offset after a write of `v` with this outcome (20_memory.md R53; log entry 6). -/
def byteLeft (o : WriteOutcome) (v : Byte) : Byte :=
  match o with
  | .ok => v
  | .fail b => b

/-- The outcome of the next byte write: lined up by the outside, else a free value (45_collaborators.md R177; log entry 6). -/
def State.nextOutcome (s : State) : WriteOutcome :=
  match s.outcomes with
  | o :: _ => o
  | [] => Config.writeOutcome s.drawIndex

/-- The state once that outcome is drawn. -/
def State.dropOutcome (s : State) : State :=
  match s.outcomes with
  | _ :: rest => { s with outcomes := rest }
  | [] => { s with drawIndex := s.drawIndex + 1 }

/-- `MemRead(off, 1)`, the byte returned (20_memory.md R52). -/
def State.nvByte (s : State) (o : NvOffset) : Byte := Memory.read s.nv o.addr

/-- `MemRead(off, 1)`, the state after it: only the action is new (20_memory.md R52). -/
def State.memRead (s : State) (o : NvOffset) : State := s.emit (.storeRead o.addr)

/-- The byte that `MemWrite(off, 1, v)` leaves at the offset (20_memory.md R53). -/
def State.byteWritten (s : State) (v : Byte) : Byte := byteLeft s.nextOutcome v

/-- `MemWrite(off, 1, v)`, the result returned: the read-back is compared with the byte written (20_memory.md R53). -/
def State.writeResult (s : State) (v : Byte) : WriteResult :=
  if s.byteWritten v = v then .success else .verifyFailure

/-- The store after `MemWrite(off, 1, v)`, before the verification is reported (20_memory.md R53). -/
def State.program (s : State) (o : NvOffset) (v : Byte) : State :=
  { (s.emit (.storeWrite o.addr v)).dropOutcome with nv := Memory.write s.nv o.addr (s.byteWritten v) }

/-- `MemWrite(off, 1, v)`, the state after it: a failed verification raises `StorageVerifyFailure(off)` (20_memory.md R53,
60_exceptions.md R191). -/
def State.memWrite (s : State) (o : NvOffset) (v : Byte) : State :=
  if s.byteWritten v = v then s.program o v
  else (s.program o v).raise (.storageVerifyFailure o.addr)

/-- `cfg_err <- 1` when a write of the group failed; never cleared here (10_state.md R26). -/
def State.noteFailures (s : State) (rs : List WriteResult) : State :=
  if rs.contains .verifyFailure then { s with cfgErr := true } else s

/-- Power-on in the middle of a run: registers to Table RST, `nv` and the parameters kept; the outside's lists and the observation go
on (70_reset_and_hazards.md R210; log entry 12). -/
def State.powerCycle (s : State) (d : ResetDraw) : State :=
  { State.powerOn s.cfg d s.nv with
    script := s.script
    outcomes := s.outcomes
    drawIndex := s.drawIndex
    trace := s.trace }

/-- What one output leaves behind when power is lost later in the same operation: a byte write has programmed its byte, with the outcome
drawn for it; every output is in the trace (20_memory.md R53, R56). -/
def State.carryOut (s : State) (x : Output) : State :=
  match x with
  | .action (.storeWrite off v) =>
    match NvOffset.ofNat? off with
    | some o => s.program o v
    | none => s
  | _ => { s with trace := s.trace ++ [x] }

/-- Several outputs, in order. -/
def State.carryOutAll (s : State) (out : List Output) : State := out.foldl State.carryOut s

/-- The outputs of an operation that leads from `s` to `t`: what it adds to the trace (00_scope.md R9). -/
def outputsSince (s t : State) : List Output := t.trace.drop s.trace.length

/-- Loss of power inside an operation that would lead from `s` to `t`: its first `k` outputs have happened, no later one has, and the
registers are those of the next power-on (20_memory.md R56, 10_state.md R33; log entry 12). -/
def losePower (k : Nat) (d : ResetDraw) (s t : State) : State :=
  (s.carryOutAll ((outputsSince s t).take k)).powerCycle d

/-- TICK's operation word (30_encoding.md R80). -/
def tickWord : OpWord := 0x01000000

/-- DWAIT's operation word (30_encoding.md R80). -/
def dwaitWord : OpWord := 0x03000000

/-- FSTEP's operation word with these pins (30_encoding.md R72, R80). -/
def fstepWord (pins : Pins) : OpWord := 0x32#8 ++ 0#21 ++ pins

/-- The step of a block that runs by itself: TICK of agent INT, or FSTEP of agent MAIN (44_mode_fsm.md R132), which while MAIN is
held is its DWAIT again (41_time_base.md R92). -/
def environmentWord (choice : Option Pins) (held : Bool) : OpWord :=
  match choice with
  | none => tickWord
  | some pins => if held then dwaitWord else fstepWord pins

/-- An operation that may begin while MAIN is held: a TICK, the DWAIT itself (41_time_base.md R92). -/
def wordPassesHold (w : OpWord) : Bool := w == tickWord || w == dwaitWord

/-- A stimulus that may be taken while MAIN is held: such an operation, or a power cycle (41_time_base.md R92). -/
def passesHold : Stimulus → Bool
  | .op w => wordPassesHold w
  | .powerCycle _ => true
  | .powerLoss w _ _ => wordPassesHold w

/-- The next stimulus: the head of the script; while MAIN is held and the head is another operation of MAIN, the DWAIT again; with
an empty script, what the environment does (41_time_base.md R92, 00_scope.md R8; log entries 4, 5 and 8). -/
def State.nextStimulus (s : State) : Stimulus :=
  match s.script with
  | x :: _ => if s.held && !passesHold x then .op dwaitWord else x
  | [] => .op (environmentWord (Config.environment s.drawIndex) s.held)

/-- The state the stimulus is taken in: the script without its head, unless the head has to wait. -/
def State.afterFetch (s : State) : State :=
  match s.script with
  | x :: rest => if s.held && !passesHold x then s else { s with script := rest }
  | [] => { s with drawIndex := s.drawIndex + 1 }

end Sys2Proof.Machine
end

