-- ==== Sys2Proof/Machine/Debounce.lean ====
section
/-!
DEFINITION. The debounce and autorepeat engine: SBEGIN, EVAL, PEND (42_debounce.md).
-/
namespace Sys2Proof.Machine

open Sys2Proof

/-- SBEGIN's effect (42_debounce.md R101). -/
def beginScan (timeout : BitVec 16) (ar : Bool) (s : State) : State :=
  { s with
    scanStart := s.ms
    scanTimeout := timeout
    scanAr := ar
    scanIdx := 0
    periodAcc := false
    scanDone := false
    scanActive := true }

/-- SBEGIN to, ar (42_debounce.md R101). -/
def execSbegin (timeout : BitVec 16) (ar : Bool) (s : State) : Result :=
  if s.scanActive then .refused .scanInProgress else .next (beginScan timeout ar s)

/-- `advance` (42_debounce.md R102). -/
def advance (s : State) : State := { s with scanIdx := s.scanIdx + 1 }

/-- `qualify(i)`: the scan ends with the switch's event (42_debounce.md R108). -/
def qualify (r : Role) (s : State) : State :=
  { s with
    scanResult := r.event
    scanDone := true
    scanActive := false }

/-- The state with one switch record replaced (10_state.md R23). -/
def State.setSwitch (s : State) (r : Role) (x : Switch) : State := { s with sw := s.sw.set r x }

/-- EVAL case PRESS (42_debounce.md R103). -/
def evalPress (r : Role) (now : Nat) (s : State) : State :=
  advance (s.setSwitch r { st := SwitchState.pressedUnconfirmed.code, downSince := now, firstDown := now })

/-- EVAL case CONFIRM (42_debounce.md R104). -/
def evalConfirm (r : Role) (now : Nat) (s : State) : State :=
  if exceeds s.cfg.width now (s.sw.get r).downSince s.cfg.debounceMs then
    qualify r (s.setSwitch r { s.sw.get r with st := SwitchState.pressedConfirmed.code })
  else advance s

/-- EVAL case HELD (42_debounce.md R105). -/
def evalHeld (s : State) : State := advance s

/-- EVAL case REPEAT: the acceleration test, then the period test on the accumulator just written (42_debounce.md R106). -/
def evalRepeat (r : Role) (now : Nat) (s : State) : State :=
  let acc := accelerated s.cfg now (s.sw.get r).firstDown s.periodAcc
  let s' := { s with periodAcc := acc }
  if exceeds s.cfg.width now (s.sw.get r).downSince (periodOf s.cfg acc) then
    qualify r (s'.setSwitch r { s.sw.get r with downSince := now })
  else advance s'

/-- EVAL case RELEASE (42_debounce.md R107). -/
def evalRelease (r : Role) (s : State) : State :=
  advance
    { s.setSwitch r { s.sw.get r with st := SwitchState.released.code } with
      periodAcc := false }

/-- EVAL case COMBINED: both physical records are released (42_debounce.md R109). -/
def evalCombined (s : State) : State :=
  advance
    { s with
      sw := { s.sw with
        up := { s.sw.up with st := SwitchState.released.code }
        down := { s.sw.down with st := SwitchState.released.code } }
      periodAcc := false }

/-- EVAL's dispatch, with the switch and the one snapshot of `ms` it uses throughout (42_debounce.md R102, 20_memory.md R60). -/
def evalSwitch (r : Role) (now : Nat) (pins : Pins) (s : State) : State :=
  if combined s.cfg r pins then evalCombined s
  else if !asserted s.cfg r pins then evalRelease r s
  else if (s.sw.get r).st = SwitchState.released.code then evalPress r now s
  else if (s.sw.get r).st = SwitchState.pressedUnconfirmed.code then evalConfirm r now s
  else if repeats s.cfg s.scanAr r then evalRepeat r now s
  else evalHeld s

/-- EVAL pins (42_debounce.md R102); a state that holds the reserved switch state is refused (30_encoding.md R78; log entry 10). -/
def execEval (pins : Pins) (s : State) : Result :=
  if s.scanActive && s.scanIdx != 3 then
    if s.sw.legal then .next (evalSwitch (scanRole s.cfg.scanOrder s.scanIdx) s.ms pins s)
    else .refused .reservedSwitchState
  else .refused .noEvaluationDue

/-- The intensity refresh of PEND (42_debounce.md R110, 43_flash.md R120). -/
def refreshIntensity (s : State) : State :=
  if s.flashArmed then s.emit (.dispSetIntensity s.intensity) else s

/-- The end of a scan by timeout: the sentinel is returned and `NoActivationWithinTimeout` raised (42_debounce.md R110,
60_exceptions.md R192). -/
def endByTimeout (s : State) : State :=
  State.raise
    { s with
      scanResult := .none
      scanDone := true
      scanActive := false }
    .noActivationWithinTimeout

/-- The next poll iteration (42_debounce.md R110). -/
def nextIteration (s : State) : State :=
  { s with
    scanIdx := 0
    periodAcc := false }

/-- PEND's effect (42_debounce.md R110). -/
def endIteration (s : State) : State :=
  if timedOut s.cfg.width s.ms s.scanStart s.scanTimeout then endByTimeout (refreshIntensity s)
  else nextIteration (refreshIntensity s)

/-- PEND (42_debounce.md R110). -/
def execPend (s : State) : Result :=
  if s.scanActive && s.scanIdx == 3 then .next (endIteration s) else .refused .iterationNotComplete

end Sys2Proof.Machine
end

