-- ==== Sys2Proof/Machine/Collaborators.lean ====
section
/-!
DEFINITION. The composite actions on the collaborators: MidiSend, ConfigLoad, ConfigSave, StoreLast (45_collaborators.md).
-/
namespace Sys2Proof.Machine

open Sys2Proof

/-- The bytes of `MidiSend(C, P, r)`, two or five (45_collaborators.md R171). -/
def midiBytes (c : Config) (channel : BitVec 4) (p : BitVec 14) (range : BitVec 3) : List Byte :=
  (if sendsBank c range then [controlChangeStatus channel, 0x00, bankByte p] else [])
    ++ [programChangeStatus channel, programByte p]

/-- `MidiSend(C, P, r)`: the bytes, contiguous and in order (45_collaborators.md R171, R173). -/
def midiSend (channel : BitVec 4) (p : BitVec 14) (range : BitVec 3) (s : State) : State :=
  s.emitAll ((midiBytes s.cfg channel p range).map .midiTx)

/-- The three reads of the configuration bytes, offsets 0, 1, 4 (45_collaborators.md R178, R179). -/
def readConfig (s : State) : State :=
  ((s.memRead .channel).memRead .range).memRead .zeroBased

/-- The two reads of the last patch, offsets 2, 3 (45_collaborators.md R179, R180). -/
def readLast (s : State) : State := (s.memRead .lastHi).memRead .lastLo

/-- The channel as it is decoded from the store (45_collaborators.md R179). -/
def loadedChannel (s : State) : BitVec 4 := (s.nvByte .channel).extractLsb' 0 4

/-- The range as it is decoded from the store (45_collaborators.md R179). -/
def loadedRange (s : State) : BitVec 3 := BitVec.ofNat 3 ((s.nvByte .range).toNat % Config.nRanges)

/-- The flag as it is decoded from the store (45_collaborators.md R179). -/
def loadedZeroBased (s : State) : Bool := flagOfByte (s.nvByte .zeroBased)

/-- The last patch as it stands in the store (20_memory.md R55). -/
def storedLast (s : State) : BitVec 16 := bigEndian (s.nvByte .lastHi) (s.nvByte .lastLo)

/-- The patch as it is restored: clamped to the loaded range, or 0 without restore (45_collaborators.md R179). -/
def loadedPatch (s : State) : BitVec 14 :=
  if s.cfg.restoreLast then clampPatch s.cfg (loadedRange s) (storedLast s).toNat else 0

/-- The reads ConfigLoad makes (45_collaborators.md R179). -/
def loadReads (s : State) : State :=
  if s.cfg.restoreLast then readLast (readConfig s) else readConfig s

/-- `ConfigLoad()`, its four results written to their registers (45_collaborators.md R179). -/
def configLoad (s : State) : State :=
  { loadReads s with
    channel := loadedChannel s
    range := loadedRange s
    zeroBased := loadedZeroBased s
    patch := loadedPatch s }

/-- The channel as a byte of the store (20_memory.md R51). -/
def channelByte (channel : BitVec 4) : Byte := channel.setWidth 8

/-- The range as a byte of the store (20_memory.md R51). -/
def rangeByte (range : BitVec 3) : Byte := range.setWidth 8

/-- A configuration register differs from the raw stored byte (45_collaborators.md R178). -/
def configDiffers (channel : BitVec 4) (range : BitVec 3) (zeroBased : Bool) (s : State) : Bool :=
  channelByte channel != s.nvByte .channel || rangeByte range != s.nvByte .range
    || byteOfFlag zeroBased != s.nvByte .zeroBased

/-- The one batched write of the three configuration bytes: all three are attempted, each verified by itself, inside one bracket
(45_collaborators.md R178, 20_memory.md R54). -/
def writeConfig (channel : BitVec 4) (range : BitVec 3) (zeroBased : Bool) (s : State) : State :=
  let s0 := s.emit .storeUnlock
  let s1 := s0.memWrite .channel (channelByte channel)
  let s2 := s1.memWrite .range (rangeByte range)
  let s3 := s2.memWrite .zeroBased (byteOfFlag zeroBased)
  (s3.emit .storeLock).noteFailures
    [s0.writeResult (channelByte channel), s1.writeResult (rangeByte range), s2.writeResult (byteOfFlag zeroBased)]

/-- `ConfigSave(c, r, z)`: nothing is written when nothing differs (45_collaborators.md R178, 20_memory.md R57). -/
def configSave (channel : BitVec 4) (range : BitVec 3) (zeroBased : Bool) (s : State) : State :=
  if configDiffers channel range zeroBased s then writeConfig channel range zeroBased (readConfig s)
  else readConfig s

/-- The two byte writes of the last patch, high byte first, inside one bracket (45_collaborators.md R180, 20_memory.md R55,
R56). -/
def writeLast (p : BitVec 14) (s : State) : State :=
  let s0 := s.emit .storeUnlock
  let s1 := s0.memWrite .lastHi (patchHi p)
  let s2 := s1.memWrite .lastLo (patchLo p)
  (s2.emit .storeLock).noteFailures [s0.writeResult (patchHi p), s1.writeResult (patchLo p)]

/-- `StoreLast(P)`: nothing is written when the stored number already is the patch (45_collaborators.md R180). -/
def storeLast (p : BitVec 14) (s : State) : State :=
  if storedLast s != p.setWidth 16 then writeLast p (readLast s) else readLast s

end Sys2Proof.Machine
end

