-- ==== Sys2Proof/Machine/Flash.lean ====
section
/-!
DEFINITION. The display flash controller: FSTART, FSTOP, ACT, and its parts of TICK (43_flash.md).
-/
namespace Sys2Proof.Machine

open Sys2Proof

/-- FSTART's effect, also performed by routes (43_flash.md R121). -/
def startFlash (s : State) : State :=
  { s with
    flashArmed := true
    intensity := s.cfg.intMax
    flashCnt := s.cfg.flashToggleMs
    actCnt := 0
    ind := false }

/-- FSTOP's register writes (43_flash.md R122). -/
def disarmFlash (s : State) : State :=
  { s with
    flashArmed := false
    intensity := s.cfg.intMax
    ind := false }

/-- FSTOP's effect, also performed by routes: the register writes, then the explicit restore call (43_flash.md R122). -/
def stopFlash (s : State) : State := (disarmFlash s).emit (.dispSetIntensity s.cfg.intMax)

/-- ACT's effect, also performed by SendPatch (43_flash.md R124). -/
def startActivity (s : State) : State :=
  if s.cfg.extIndicator && !s.flashArmed then { s with ind := true, actCnt := s.cfg.activityMs } else s

/-- A toggle of the square wave: the countdown is reloaded (43_flash.md R123). -/
def toggleFlash (s : State) : State :=
  { s with
    intensity := toggledIntensity s.cfg s.intensity
    flashCnt := s.cfg.flashToggleMs
    ind := indicatorAt s.cfg (toggledIntensity s.cfg s.intensity) s.ind }

/-- Part (b) of TICK, the flash cadence (43_flash.md R123). -/
def tickFlash (s : State) : State :=
  if s.flashArmed then
    if s.flashCnt - 1 = 0 then toggleFlash s else { s with flashCnt := s.flashCnt - 1 }
  else s

/-- Part (c) of TICK, the activity countdown (43_flash.md R125). -/
def tickActivity (s : State) : State :=
  if s.cfg.extIndicator && !s.flashArmed && s.actCnt != 0 then
    { s with
      actCnt := s.actCnt - 1
      ind := if s.actCnt - 1 = 0 then false else s.ind }
  else s

/-- FSTART (43_flash.md R121). -/
def execFstart (s : State) : Result := .next (startFlash s)

/-- FSTOP (43_flash.md R122). -/
def execFstop (s : State) : Result := .next (stopFlash s)

/-- ACT (43_flash.md R124). -/
def execAct (s : State) : Result := .next (startActivity s)

end Sys2Proof.Machine
end

