-- ==== Sys2Proof/Machine/Routes.lean ====
section
/-!
DEFINITION. The composite actions SendPatch and ConfigExit, the twenty routes, and the meanings of the route constructors
(44_mode_fsm.md R135 to R158).
-/
namespace Sys2Proof.Machine

open Sys2Proof

/-- `SendPatch`: transmission, activity, last-patch store, display refresh, in the source's order (44_mode_fsm.md R136). -/
def sendPatch (s : State) : State :=
  let s1 := startActivity (midiSend s.channel s.patch s.range s)
  let s2 := if s.cfg.restoreLast then storeLast s.patch s1 else s1
  s2.emit (.dispShowPatch (shown s.zeroBased s.patch))

/-- `mode <- m`, the block's `pc <- target` (00_scope.md R10). -/
def State.goto (s : State) (m : Mode) : State := { s with mode := m.code }

/-- `ConfigExit` (44_mode_fsm.md R137). -/
def configExit (s : State) : State :=
  let s1 := configSave s.channel s.range s.zeroBased (stopFlash s)
  (s1.goto .normal).emit (.dispShowPatch (shown s.zeroBased s.patch))

/-- Entering ConfigChannel, the effect of R139 and R141. -/
def enterConfigChannel (s : State) : State :=
  (startFlash (s.goto .configChannel)).emit (.dispShowChannelRange s.channel s.range)

/-- Toggling the zero-based flag, the effect of R147 and R148. -/
def toggleZeroBased (s : State) : State :=
  { s with zeroBased := !s.zeroBased }.emit (.dispShowZeroBased (!s.zeroBased))

/-- The active patch replaced and sent, the effect of R151 and R152. -/
def stepPatch (p : BitVec 14) (s : State) : State := sendPatch { s with patch := p }

/-- The candidate replaced and shown, the effect of R155 and R156. -/
def stepWork (w : BitVec 14) (s : State) : State :=
  { s with work := w }.emit (.dispShowPatch (shown s.zeroBased w))

/-- Route StartupConfig / NONE (44_mode_fsm.md R138). -/
def routeStartupConfigNone (s : State) : State :=
  (s.goto .normal).emit (.dispShowPatch (shown s.zeroBased s.patch))

/-- Route StartupConfig / UP (44_mode_fsm.md R139). -/
def routeStartupConfigUp (s : State) : State := enterConfigChannel s

/-- Route StartupConfig / DOWN (44_mode_fsm.md R140). -/
def routeStartupConfigDown (s : State) : State :=
  (startFlash (s.goto .configDisplay)).emit (.dispShowZeroBased s.zeroBased)

/-- Route StartupConfig / MODE (44_mode_fsm.md R141). -/
def routeStartupConfigMode (s : State) : State := enterConfigChannel s

/-- Route ConfigChannel / NONE (44_mode_fsm.md R142). -/
def routeConfigChannelNone (s : State) : State := configExit s

/-- Route ConfigChannel / UP (44_mode_fsm.md R143). -/
def routeConfigChannelUp (s : State) : State :=
  { s with channel := s.channel + 1 }.emit (.dispShowChannelRange (s.channel + 1) s.range)

/-- Route ConfigChannel / DOWN (44_mode_fsm.md R144). -/
def routeConfigChannelDown (s : State) : State :=
  { s with channel := s.channel + 15 }.emit (.dispShowChannelRange (s.channel + 15) s.range)

/-- `(range + 1) mod 5` (44_mode_fsm.md R145). -/
def nextRange (r : BitVec 3) : BitVec 3 := BitVec.ofNat 3 ((r.toNat + 1) % Config.nRanges)

/-- Route ConfigChannel / MODE (44_mode_fsm.md R145). -/
def routeConfigChannelMode (s : State) : State :=
  { s with
    range := nextRange s.range
    patch := clampPatch s.cfg (nextRange s.range) s.patch.toNat }.emit
    (.dispShowChannelRange s.channel (nextRange s.range))

/-- Route ConfigDisplay / NONE (44_mode_fsm.md R146). -/
def routeConfigDisplayNone (s : State) : State := configExit s

/-- Route ConfigDisplay / UP (44_mode_fsm.md R147). -/
def routeConfigDisplayUp (s : State) : State := toggleZeroBased s

/-- Route ConfigDisplay / DOWN (44_mode_fsm.md R148). -/
def routeConfigDisplayDown (s : State) : State := toggleZeroBased s

/-- Route ConfigDisplay / MODE (44_mode_fsm.md R149). -/
def routeConfigDisplayMode (s : State) : State := configExit s

/-- Route Normal / NONE: no register changes, no action (44_mode_fsm.md R150). -/
def routeNormalNone (s : State) : State := s

/-- Route Normal / UP (44_mode_fsm.md R151). -/
def routeNormalUp (s : State) : State := stepPatch (incPatch s.cfg s.range s.patch) s

/-- Route Normal / DOWN (44_mode_fsm.md R152). -/
def routeNormalDown (s : State) : State := stepPatch (decPatch s.cfg s.range s.patch) s

/-- Route Normal / MODE (44_mode_fsm.md R153). -/
def routeNormalMode (s : State) : State := (startFlash { s with work := s.patch }).goto .mode2

/-- Route Mode2 / NONE: no register changes, no action (44_mode_fsm.md R154). -/
def routeMode2None (s : State) : State := s

/-- Route Mode2 / UP (44_mode_fsm.md R155). -/
def routeMode2Up (s : State) : State := stepWork (incPatch s.cfg s.range s.work) s

/-- Route Mode2 / DOWN (44_mode_fsm.md R156). -/
def routeMode2Down (s : State) : State := stepWork (decPatch s.cfg s.range s.work) s

/-- Route Mode2 / MODE: the commit (44_mode_fsm.md R157). -/
def routeMode2Mode (s : State) : State := (stopFlash (sendPatch { s with patch := s.work })).goto .normal

/-- The route selected by a mode and an event (30_encoding.md R79, R80). -/
def performRoute (m : Mode) (ev : Event) (s : State) : State :=
  match m, ev with
  | .startupConfig, .none => routeStartupConfigNone s
  | .startupConfig, .up => routeStartupConfigUp s
  | .startupConfig, .down => routeStartupConfigDown s
  | .startupConfig, .mode => routeStartupConfigMode s
  | .configChannel, .none => routeConfigChannelNone s
  | .configChannel, .up => routeConfigChannelUp s
  | .configChannel, .down => routeConfigChannelDown s
  | .configChannel, .mode => routeConfigChannelMode s
  | .configDisplay, .none => routeConfigDisplayNone s
  | .configDisplay, .up => routeConfigDisplayUp s
  | .configDisplay, .down => routeConfigDisplayDown s
  | .configDisplay, .mode => routeConfigDisplayMode s
  | .normal, .none => routeNormalNone s
  | .normal, .up => routeNormalUp s
  | .normal, .down => routeNormalDown s
  | .normal, .mode => routeNormalMode s
  | .mode2, .none => routeMode2None s
  | .mode2, .up => routeMode2Up s
  | .mode2, .down => routeMode2Down s
  | .mode2, .mode => routeMode2Mode s

/-- Where EVENT may perform the routes of a mode: the block is booted, no scan is active, and this is the mode
(44_mode_fsm.md R134; log entry 11). -/
def routeSelected (m : Mode) (s : State) : Bool := s.booted && !s.scanActive && s.mode == m.code

/-- A route taken by itself: its effect where it is selected (30_encoding.md R79, 44_mode_fsm.md R134). -/
def whenSelected (m : Mode) (s : State) (after : State) : Result :=
  if routeSelected m s then
    if rangeLegal s.range then .next after else .refused .reservedRange
  else .refused .routeNotSelected

/-- ROUTE.StartupConfig.NONE (44_mode_fsm.md R138). -/
def execRouteStartupConfigNone (s : State) : Result := whenSelected .startupConfig s (routeStartupConfigNone s)

/-- ROUTE.StartupConfig.UP (44_mode_fsm.md R139). -/
def execRouteStartupConfigUp (s : State) : Result := whenSelected .startupConfig s (routeStartupConfigUp s)

/-- ROUTE.StartupConfig.DOWN (44_mode_fsm.md R140). -/
def execRouteStartupConfigDown (s : State) : Result := whenSelected .startupConfig s (routeStartupConfigDown s)

/-- ROUTE.StartupConfig.MODE (44_mode_fsm.md R141). -/
def execRouteStartupConfigMode (s : State) : Result := whenSelected .startupConfig s (routeStartupConfigMode s)

/-- ROUTE.ConfigChannel.NONE (44_mode_fsm.md R142). -/
def execRouteConfigChannelNone (s : State) : Result := whenSelected .configChannel s (routeConfigChannelNone s)

/-- ROUTE.ConfigChannel.UP (44_mode_fsm.md R143). -/
def execRouteConfigChannelUp (s : State) : Result := whenSelected .configChannel s (routeConfigChannelUp s)

/-- ROUTE.ConfigChannel.DOWN (44_mode_fsm.md R144). -/
def execRouteConfigChannelDown (s : State) : Result := whenSelected .configChannel s (routeConfigChannelDown s)

/-- ROUTE.ConfigChannel.MODE (44_mode_fsm.md R145). -/
def execRouteConfigChannelMode (s : State) : Result := whenSelected .configChannel s (routeConfigChannelMode s)

/-- ROUTE.ConfigDisplay.NONE (44_mode_fsm.md R146). -/
def execRouteConfigDisplayNone (s : State) : Result := whenSelected .configDisplay s (routeConfigDisplayNone s)

/-- ROUTE.ConfigDisplay.UP (44_mode_fsm.md R147). -/
def execRouteConfigDisplayUp (s : State) : Result := whenSelected .configDisplay s (routeConfigDisplayUp s)

/-- ROUTE.ConfigDisplay.DOWN (44_mode_fsm.md R148). -/
def execRouteConfigDisplayDown (s : State) : Result := whenSelected .configDisplay s (routeConfigDisplayDown s)

/-- ROUTE.ConfigDisplay.MODE (44_mode_fsm.md R149). -/
def execRouteConfigDisplayMode (s : State) : Result := whenSelected .configDisplay s (routeConfigDisplayMode s)

/-- ROUTE.Normal.NONE (44_mode_fsm.md R150). -/
def execRouteNormalNone (s : State) : Result := whenSelected .normal s (routeNormalNone s)

/-- ROUTE.Normal.UP (44_mode_fsm.md R151). -/
def execRouteNormalUp (s : State) : Result := whenSelected .normal s (routeNormalUp s)

/-- ROUTE.Normal.DOWN (44_mode_fsm.md R152). -/
def execRouteNormalDown (s : State) : Result := whenSelected .normal s (routeNormalDown s)

/-- ROUTE.Normal.MODE (44_mode_fsm.md R153). -/
def execRouteNormalMode (s : State) : Result := whenSelected .normal s (routeNormalMode s)

/-- ROUTE.Mode2.NONE (44_mode_fsm.md R154). -/
def execRouteMode2None (s : State) : Result := whenSelected .mode2 s (routeMode2None s)

/-- ROUTE.Mode2.UP (44_mode_fsm.md R155). -/
def execRouteMode2Up (s : State) : Result := whenSelected .mode2 s (routeMode2Up s)

/-- ROUTE.Mode2.DOWN (44_mode_fsm.md R156). -/
def execRouteMode2Down (s : State) : Result := whenSelected .mode2 s (routeMode2Down s)

/-- ROUTE.Mode2.MODE (44_mode_fsm.md R157). -/
def execRouteMode2Mode (s : State) : Result := whenSelected .mode2 s (routeMode2Mode s)

end Sys2Proof.Machine
end

