-- ==== Sys2Proof/Machine/Fsm.lean ====
section
/-!
DEFINITION. The mode state machine's operations: BOOT, EVENT, FSTEP (44_mode_fsm.md R131, R132, R134).
-/
namespace Sys2Proof.Machine

open Sys2Proof

/-- BOOT's effect (44_mode_fsm.md R131). -/
def bootUp (s : State) : State :=
  let s1 := configLoad (s.emit .dispInit)
  { s1 with
    work := s1.patch
    mode := Mode.startupConfig.code
    booted := true }

/-- BOOT (44_mode_fsm.md R131). -/
def execBoot (s : State) : Result :=
  if s.booted then .refused .alreadyBooted else .next (bootUp s)

/-- EVENT's effect in a mode: the result is consumed, then the route performed (44_mode_fsm.md R134). -/
def deliver (m : Mode) (ev : Event) (s : State) : State := performRoute m ev { s with scanDone := false }

/-- EVENT ev (44_mode_fsm.md R134); a reserved mode or range is refused (44_mode_fsm.md R158, 10_state.md R22; log entry 10). -/
def execEvent (ev : Event) (s : State) : Result :=
  if s.booted && !s.scanActive then
    match Mode.ofCode s.mode with
    | some m => if rangeLegal s.range then .next (deliver m ev s) else .refused .reservedRange
    | none => .refused .reservedMode
  else .refused .eventNotAccepted

/-- The SBEGIN line of FSTEP: the scan the mode asks for (44_mode_fsm.md R132, R133, R158). -/
def beginModeScan (s : State) : Result :=
  match Mode.ofCode s.mode with
  | some m => execSbegin (scanTimeoutOf s.cfg m) (scanArOf m) s
  | none => .refused .reservedMode

/-- FSTEP pins: exactly one other operation, the first whose line applies (44_mode_fsm.md R132). -/
def execFstep (pins : Pins) (s : State) : Result :=
  if !s.booted then execBoot s
  else if s.scanDone then execEvent s.scanResult s
  else if s.scanActive && s.scanIdx != 3 then execEval pins s
  else if s.scanActive && s.scanIdx == 3 then execPend s
  else beginModeScan s

end Sys2Proof.Machine
end

