-- ==== Sys2Proof/Machine/TimeBase.lean ====
section
/-!
DEFINITION. The time base: TICK, DLOAD, DWAIT (41_time_base.md).
-/
namespace Sys2Proof.Machine

open Sys2Proof

/-- Part (a) of TICK: the counter wraps, the countdown stops at 0 (41_time_base.md R90). -/
def tickTimeBase (s : State) : State :=
  { s with
    ms := nextMs s.cfg.width s.ms
    delayCnt := if s.delayCnt ≠ 0 then s.delayCnt - 1 else s.delayCnt }

/-- TICK, the whole of the interrupt's handler: parts (a), (b), (c) in one atomic step; entry saves nothing and return restores
nothing (41_time_base.md R90; 60_exceptions.md R194, R197, R198). -/
def execTick (s : State) : Result := .next (tickActivity (tickFlash (tickTimeBase s)))

/-- DLOAD n: one outstanding delay at a time (41_time_base.md R91). -/
def execDload (n : BitVec 16) (s : State) : Result :=
  if s.delayCnt = 0 then .next { s with delayCnt := n } else .refused .delayOutstanding

/-- DWAIT: complete at 0, else hold; no register of the block changes, and `held` says that MAIN stays at this DWAIT
(41_time_base.md R92; log entry 8). -/
def execDwait (s : State) : Result :=
  if s.delayCnt = 0 then .next { s with held := false } else .next { s with held := true }

end Sys2Proof.Machine
end

