-- ==== Sys2Proof/Machine/Dispatch.lean ====
section
/-!
DEFINITION. The dispatch: one arm for each of the twelve operations and twenty routes (30_encoding.md R70, R80).
-/
namespace Sys2Proof.Machine

open Sys2Proof

def exec (i : Instr) (s : State) : Host.Outcome State Fault Refusal :=
  match i with
  | .tick => Sys2Proof.Machine.execTick s
  | .dload n => Sys2Proof.Machine.execDload n s
  | .dwait => Sys2Proof.Machine.execDwait s
  | .sbegin timeout ar => Sys2Proof.Machine.execSbegin timeout ar s
  | .eval pins => Sys2Proof.Machine.execEval pins s
  | .pend => Sys2Proof.Machine.execPend s
  | .fstart => Sys2Proof.Machine.execFstart s
  | .fstop => Sys2Proof.Machine.execFstop s
  | .act => Sys2Proof.Machine.execAct s
  | .boot => Sys2Proof.Machine.execBoot s
  | .event ev => Sys2Proof.Machine.execEvent ev s
  | .fstep pins => Sys2Proof.Machine.execFstep pins s
  | .routeStartupConfigNone => Sys2Proof.Machine.execRouteStartupConfigNone s
  | .routeStartupConfigUp => Sys2Proof.Machine.execRouteStartupConfigUp s
  | .routeStartupConfigDown => Sys2Proof.Machine.execRouteStartupConfigDown s
  | .routeStartupConfigMode => Sys2Proof.Machine.execRouteStartupConfigMode s
  | .routeConfigChannelNone => Sys2Proof.Machine.execRouteConfigChannelNone s
  | .routeConfigChannelUp => Sys2Proof.Machine.execRouteConfigChannelUp s
  | .routeConfigChannelDown => Sys2Proof.Machine.execRouteConfigChannelDown s
  | .routeConfigChannelMode => Sys2Proof.Machine.execRouteConfigChannelMode s
  | .routeConfigDisplayNone => Sys2Proof.Machine.execRouteConfigDisplayNone s
  | .routeConfigDisplayUp => Sys2Proof.Machine.execRouteConfigDisplayUp s
  | .routeConfigDisplayDown => Sys2Proof.Machine.execRouteConfigDisplayDown s
  | .routeConfigDisplayMode => Sys2Proof.Machine.execRouteConfigDisplayMode s
  | .routeNormalNone => Sys2Proof.Machine.execRouteNormalNone s
  | .routeNormalUp => Sys2Proof.Machine.execRouteNormalUp s
  | .routeNormalDown => Sys2Proof.Machine.execRouteNormalDown s
  | .routeNormalMode => Sys2Proof.Machine.execRouteNormalMode s
  | .routeMode2None => Sys2Proof.Machine.execRouteMode2None s
  | .routeMode2Up => Sys2Proof.Machine.execRouteMode2Up s
  | .routeMode2Down => Sys2Proof.Machine.execRouteMode2Down s
  | .routeMode2Mode => Sys2Proof.Machine.execRouteMode2Mode s

end Sys2Proof.Machine
end

