-- ==== Sys2Proof/Machine/Step.lean ====
section
/-!
DEFINITION. One step of the block: the next stimulus is taken and its operation performed (00_scope.md R8, 30_encoding.md R71).
-/
namespace Sys2Proof.Machine

open Sys2Proof

/-- An operation word is decoded and executed, an illegal one refused (30_encoding.md R81). -/
def runWord (w : OpWord) (s : State) : Host.Outcome State Fault Refusal :=
  match decodeOp w with
  | .ok i => exec i s
  | .error e => .refused (Refusal.ofDecodeError e)

/-- One stimulus: an operation, a power cycle (70_reset_and_hazards.md R210), or an operation in which power is lost (20_memory.md
R56). -/
def perform (x : Stimulus) (s : State) : Host.Outcome State Fault Refusal :=
  match x with
  | .op w => runWord w s
  | .powerCycle d => .next (s.powerCycle d)
  | .powerLoss w k d => mapNext (losePower k d s) (runWord w s)

/-- One atomic step of agent INT or agent MAIN. An assignment of the parameters that breaks 00_scope.md R7 is refused. -/
def step (s : State) : Host.Outcome State Fault Refusal :=
  if s.cfg.wellFormed then perform s.nextStimulus s.afterFetch else .refused .invalidParameters

/-- The instruction of a numbered word placed where the next step takes it. An operation word goes to the head of the script, MAIN not
held. A route is never issued by itself (30_encoding.md R70): the block is put where EVENT selects it (booted, no scan active, in the
route's mode) with that EVENT's word at the head (log entries 4 and 11). -/
def State.withFetchWord (s : State) (nbits w : Nat) : State :=
  if nbits ≤ 8 then
    { s with
      held := false
      booted := true
      scanActive := false
      mode := (BitVec.ofNat 5 w).extractLsb' 2 3
      script := .op (0x31#8 ++ 0#22 ++ (BitVec.ofNat 5 w).extractLsb' 0 2) :: s.script }
  else
    { s with
      held := false
      script := .op (BitVec.ofNat 32 w) :: s.script }

end Sys2Proof.Machine
end

