-- ==== Sys2Proof/Safety.lean ====
section
/-!
DEFINITION. What claims are stated in: sequences of operations, the invariant of the block, the outputs of a run, a shift of the
counter, and the part of the state that a later step can still read.
-/
namespace Sys2Proof.Machine

open Sys2Proof

/-- Operations performed one after the other; the first that is refused ends the sequence. -/
def runOps : List Instr → State → Result
  | [], s => .next s
  | i :: rest, s =>
    match exec i s with
    | .next t => runOps rest t
    | .fault r => .fault r
    | .refused r => .refused r

/-- Every operation of the sequence meets the test in the state it is performed in. -/
def throughout (test : Instr → State → Bool) : List Instr → State → Bool
  | [], _ => true
  | i :: rest, s =>
    test i s &&
      match exec i s with
      | .next t => throughout test rest t
      | .fault _ => true
      | .refused _ => true

/-- The mode is one in which flashing is armed (43_flash.md R126). -/
def attentionMode (m : BitVec 3) : Bool :=
  m == Mode.configChannel.code || m == Mode.configDisplay.code || m == Mode.mode2.code

/-- An output that is a MIDI byte. -/
def Output.isMidi : Output → Bool
  | .action (.midiTx _) => true
  | _ => false

/-- An output that is a store write. -/
def Output.isStoreWrite : Output → Bool
  | .action (.storeWrite _ _) => true
  | _ => false

/-- The output actions of a trace: what is left when the raised error kinds are taken out (00_scope.md R9, R11). -/
def actionsOf : List Output → List Action
  | [] => []
  | .action a :: rest => a :: actionsOf rest
  | .raised _ :: rest => actionsOf rest

/-- The flash controller's invariants (43_flash.md R120, R122). -/
structure FlashInv (s : State) : Prop where
  twoLevels : s.intensity = s.cfg.intMin ∨ s.intensity = s.cfg.intMax
  restsAtMax : s.flashArmed = false → s.intensity = s.cfg.intMax
  countsDown : s.flashArmed = true → 1 ≤ s.flashCnt.toNat ∧ s.flashCnt.toNat ≤ s.cfg.flashToggleMs.toNat
  noIndicator : s.cfg.extIndicator = false → s.ind = false ∧ s.actCnt = 0
  exclusive : s.flashArmed = true → s.actCnt = 0

/-- The time-valued registers hold W-bit values (10_state.md R23, R27, R28). -/
structure TimeInv (s : State) : Prop where
  ms : s.ms < 2 ^ s.cfg.width
  scanStart : s.scanStart < 2 ^ s.cfg.width
  downSince : ∀ r, (s.sw.get r).downSince < 2 ^ s.cfg.width
  firstDown : ∀ r, (s.sw.get r).firstDown < 2 ^ s.cfg.width

/-- No register holds a reserved code (30_encoding.md R77, R78; 10_state.md R22). -/
structure CodesLegal (s : State) : Prop where
  mode : (Mode.ofCode s.mode).isSome = true
  switches : s.sw.legal = true
  range : s.range.toNat < Config.nRanges

/-- The patch invariants (10_state.md R22). -/
structure PatchInv (s : State) : Prop where
  patch : s.patch.toNat ≤ (maxPatchOf s.cfg s.range).toNat
  work : s.mode = Mode.mode2.code → s.work.toNat ≤ (maxPatchOf s.cfg s.range).toNat

/-- The invariant of the block: legal parameters and codes, W-bit times, the store in canonical form, the patch and flash invariants,
and no result pending while a scan runs (42_debounce.md R111). -/
structure Inv (s : State) : Prop where
  config : s.cfg.wellFormed = true
  codes : CodesLegal s
  times : TimeInv s
  store : Memory.wf s.nv = true
  patches : PatchInv s
  flash : FlashInv s
  oneResult : s.scanDone = true → s.scanActive = false

/-- Flashing is armed exactly in an attention mode, and a block that has not booted is in StartupConfig (43_flash.md R126). -/
structure AttentionInv (s : State) : Prop where
  armed : s.flashArmed = attentionMode s.mode
  fresh : s.booted = false → s.mode = Mode.startupConfig.code

/-- Every time-valued register moved by `k` ticks, modulo `2^W` (41_time_base.md R94). -/
def shiftTime (k : Nat) (s : State) : State :=
  { s with
    ms := (s.ms + k) % 2 ^ s.cfg.width
    scanStart := (s.scanStart + k) % 2 ^ s.cfg.width
    sw :=
      { up := { s.sw.up with
          downSince := (s.sw.up.downSince + k) % 2 ^ s.cfg.width
          firstDown := (s.sw.up.firstDown + k) % 2 ^ s.cfg.width }
        down := { s.sw.down with
          downSince := (s.sw.down.downSince + k) % 2 ^ s.cfg.width
          firstDown := (s.sw.down.firstDown + k) % 2 ^ s.cfg.width }
        mode := { s.sw.mode with
          downSince := (s.sw.mode.downSince + k) % 2 ^ s.cfg.width
          firstDown := (s.sw.mode.firstDown + k) % 2 ^ s.cfg.width } } }

/-- A switch record without the timestamps of a released switch. -/
def Switch.live (x : Switch) : Switch :=
  if x.st = SwitchState.released.code then { x with downSince := 0, firstDown := 0 } else x

/-- The state without what no later step reads before writing it: the timestamps of released switches, `scan_start` outside a scan,
`flash_cnt` while not armed (10_state.md R33, 93_implementation_defined.md U2). -/
def liveState (s : State) : State :=
  { s with
    sw := { up := s.sw.up.live, down := s.sw.down.live, mode := s.sw.mode.live }
    scanStart := if s.scanActive then s.scanStart else 0
    flashCnt := if s.flashArmed then s.flashCnt else 0 }

/-- The scan has returned this switch's activation: UP for Up, DOWN for Down, MODE for Mode (30_encoding.md R76). -/
def activated (r : Role) (s : State) : Bool :=
  s.scanDone &&
    s.scanResult ==
      match r with
      | .up => .up
      | .down => .down
      | .mode => .mode

/-- The event an operation delivers to the mode state machine, if it delivers one (44_mode_fsm.md R132, R134). -/
def delivered : Instr → State → Option Event
  | .event ev, _ => some ev
  | .fstep _, s => if s.booted && s.scanDone then some s.scanResult else none
  | _, _ => none

/-- The pins an operation samples, if it samples any (30_encoding.md R73). -/
def pinsSampled : Instr → Option Pins
  | .eval pins => some pins
  | .fstep pins => some pins
  | _ => none

/-- EVENT may be performed in this mode (44_mode_fsm.md R134): booted, no scan active, the mode and the range not reserved. -/
structure CanPerform (m : Mode) (s : State) : Prop where
  booted : s.booted = true
  idle : s.scanActive = false
  mode : s.mode = m.code
  range : s.range.toNat < Config.nRanges

/-- An evaluation of this switch is due (42_debounce.md R102): a scan is active, the switch stands at `scan_idx` in the order, and no
record holds the reserved code. -/
structure EvalDue (r : Role) (s : State) : Prop where
  active : s.scanActive = true
  position :
    (s.scanIdx = 0 ∧ r = s.cfg.scanOrder.first) ∨ (s.scanIdx = 1 ∧ r = s.cfg.scanOrder.second)
      ∨ (s.scanIdx = 2 ∧ r = s.cfg.scanOrder.third)
  legal : s.sw.up.st ≠ 3 ∧ s.sw.down.st ≠ 3 ∧ s.sw.mode.st ≠ 3

/-- Every offset of the store reads as before. -/
def SameStore (s t : State) : Prop := ∀ off, Memory.read t.nv off = Memory.read s.nv off

/-- Nothing was drawn: no write outcome was used up. -/
def NothingDrawn (s t : State) : Prop := t.outcomes = s.outcomes ∧ t.drawIndex = s.drawIndex

/-- The failed verification of one byte write, as it stands in the trace after the write (20_memory.md R53): the byte found differs
from the byte written. -/
def verifyOutput (off : Nat) (written found : Byte) : List Output :=
  if found = written then [] else [.raised (.storageVerifyFailure off)]

/-- What ConfigSave does between two states, and what it puts into the trace (45_collaborators.md R178): three reads; if a stored byte
differs, one bracket with three verified writes. -/
def ConfigSaved (c r z : Byte) (s t : State) (out : List Output) : Prop :=
  let reads : List Output := [.action (.storeRead 0), .action (.storeRead 1), .action (.storeRead 4)]
  if c = Memory.read s.nv 0 ∧ r = Memory.read s.nv 1 ∧ z = Memory.read s.nv 4 then
    out = reads ∧ SameStore s t ∧ t.cfgErr = s.cfgErr ∧ NothingDrawn s t
  else
    out = reads ++ [.action .storeUnlock]
        ++ [.action (.storeWrite 0 c)] ++ verifyOutput 0 c (Memory.read t.nv 0)
        ++ [.action (.storeWrite 1 r)] ++ verifyOutput 1 r (Memory.read t.nv 1)
        ++ [.action (.storeWrite 4 z)] ++ verifyOutput 4 z (Memory.read t.nv 4)
        ++ [.action .storeLock]
      ∧ (∀ off, off ≠ 0 → off ≠ 1 → off ≠ 4 → Memory.read t.nv off = Memory.read s.nv off)
      ∧ t.cfgErr = (s.cfgErr || Memory.read t.nv 0 != c || Memory.read t.nv 1 != r || Memory.read t.nv 4 != z)

/-- What StoreLast does between two states when restore is built in, and nothing when it is not, with what it puts into the trace
(44_mode_fsm.md R136, 45_collaborators.md R180). -/
def LastStored (p : Nat) (s t : State) (out : List Output) : Prop :=
  let reads : List Output := [.action (.storeRead 2), .action (.storeRead 3)]
  let h : Byte := BitVec.ofNat 8 (p / 256)
  let l : Byte := BitVec.ofNat 8 (p % 256)
  if s.cfg.restoreLast = false then
    out = [] ∧ SameStore s t ∧ t.cfgErr = s.cfgErr ∧ NothingDrawn s t
  else if (Memory.read s.nv 2).toNat * 256 + (Memory.read s.nv 3).toNat = p then
    out = reads ∧ SameStore s t ∧ t.cfgErr = s.cfgErr ∧ NothingDrawn s t
  else
    out = reads ++ [.action .storeUnlock]
        ++ [.action (.storeWrite 2 h)] ++ verifyOutput 2 h (Memory.read t.nv 2)
        ++ [.action (.storeWrite 3 l)] ++ verifyOutput 3 l (Memory.read t.nv 3)
        ++ [.action .storeLock]
      ∧ (∀ off, off ≠ 2 → off ≠ 3 → Memory.read t.nv off = Memory.read s.nv off)
      ∧ t.cfgErr = (s.cfgErr || Memory.read t.nv 2 != h || Memory.read t.nv 3 != l)

/-- The trace entries of MidiSend (45_collaborators.md R171), in numbers: five bytes when bank switching is built in or the range is not
range 0, else two. -/
def midiOutputs (c : Config) (channel patch range : Nat) : List Output :=
  let byte (n : Nat) : Output := .action (.midiTx (BitVec.ofNat 8 n))
  if c.bankSwitch = true ∨ range ≠ 0 then
    [byte (0xB0 + channel), byte 0, byte (patch / 128), byte (0xC0 + channel), byte (patch % 128)]
  else [byte (0xC0 + channel), byte (patch % 128)]

/-- The number the display shows for a patch (44_mode_fsm.md R135). -/
def shownNumber (zeroBased : Bool) (p : Nat) : Nat := if zeroBased then p else p + 1

/-- An infinite run of the block (00_scope.md R9). -/
def IsRun (r : Nat → State) : Prop := ∀ n, step (r n) = .next (r (n + 1))

/-- The step taken at a state is agent INT's TICK. -/
def ticksAt (s : State) : Prop := s.nextStimulus = .op tickWord

/-- Weak fairness of agent INT: TICK occurs infinitely often (00_scope.md R9). A premise of liveness claims, enforced by no step. -/
def FairRun (r : Nat → State) : Prop := IsRun r ∧ ∀ n, ∃ m, n ≤ m ∧ ticksAt (r m)

end Sys2Proof.Machine
end

