-- ==== Sys2Proof/Certificates/Slice0/Obligations.lean ====
section
/-!
DEFINITION. The statements for the provers. Where a statement rests on a choice of the model, its docstring names the log entry.
-/

open Sys2Proof Sys2Proof.Machine

/-! ## Encoding -/

/-- Every instruction, with every operand at every value, is decoded from the word it is encoded as (30_encoding.md R71 to R73, R79,
R80). The spec marks D1, D4 as its own decisions. -/
def Obligations.EncodedInstructionDecodesBack : Prop :=
  ∀ i : Instr, decode (encode i) = .ok i

/-- No bit of a legal word is dropped: the instruction it decodes to is encoded as that very word (30_encoding.md R72, R81). The spec
marks D1, D4 as its own decisions. -/
def Obligations.DecodedWordEncodesBack : Prop :=
  (∀ w i, decodeOp w = .ok i → encode i = .op w ∧ i.isOperation = true)
    ∧ ∀ r i, decodeRoute r = .ok i → encode i = .route r ∧ i.isOperation = false

/-- A word is legal exactly when a row of the opcode map names it, and it decodes to that row's operation; no two rows name one word
(30_encoding.md R80, R81). The spec marks D1 as its own decision. -/
def Obligations.LegalWordsAreTheRowsOfTheOpcodeMap : Prop :=
  (∀ w i, decodeOp w = .ok i → ∃ row ∈ opcodeTable, row.mnemonic = i.mnemonic ∧ row.names w = true)
    ∧ (∀ w, ∀ row ∈ opcodeTable, row.names w = true → ∃ i, decodeOp w = .ok i ∧ i.mnemonic = row.mnemonic)
    ∧ ∀ w, ∀ a ∈ opcodeTable, ∀ b ∈ opcodeTable, a.names w = true → b.names w = true → a = b

/-- Route words: `{mode, ev}` selects the route of the mode and the event, and the twelve words with `mode` in 5 to 7 are refused
(30_encoding.md R79, 44_mode_fsm.md R158). The spec marks D4 as its own decision. -/
def Obligations.RouteWordSelectsItsRoute : Prop :=
  (∀ m ev, decodeRoute (routeWord m.code ev) = .ok (Instr.ofRoute m ev))
    ∧ ∀ r : RouteWord, 20 ≤ r.toNat → decodeRoute r = .error (.reservedRoute r)

/-- A few words written out from the encoding tables decode to what they stand for, and a few illegal ones to nothing
(95_test_vectors.md section 2.1). The spec marks D1, D4 as its own decisions. -/
def Obligations.SampleWordsDecode : Prop :=
  decodeOp 0x01000000 = .ok .tick ∧ decodeOp 0x0200FFFF = .ok (.dload 65535)
    ∧ decodeOp 0x10010BB8 = .ok (.sbegin 3000 true) ∧ decodeOp 0x11000003 = .ok (.eval 3)
    ∧ decodeOp 0x22000000 = .ok .act ∧ decodeOp 0x31000002 = .ok (.event .down)
    ∧ decodeOp 0x32000007 = .ok (.fstep 7) ∧ decodeRoute 0b10011 = .ok .routeMode2Mode
    ∧ decodeOp 0x00000000 = .error (.unassignedOp 0) ∧ decodeOp 0x10020000 = .error (.reservedBitSet 0x10020000)

/-! ## The step -/

/-- A step runs the decoded operation: with a legal word at the head of the script and MAIN not held, the step is exec of its
instruction on the state without that word (log entry 4). -/
def Obligations.StepRunsTheDecodedOperation : Prop :=
  ∀ (s : State) (w : OpWord) (rest : List Stimulus) (i : Instr), s.cfg.wellFormed = true → s.script = .op w :: rest →
    s.held = false → decodeOp w = .ok i → step s = exec i { s with script := rest }

/-- An illegal word is refused when it is taken, MAIN not held (a held MAIN leaves it waiting, log entry 8). An assignment is legal
exactly when it meets the constraints (a) to (f) and the value sets of Table P, and with any other every step is refused, before the
word is looked at (30_encoding.md R81, 00_scope.md R6, R7; that every step makes this check, and makes it first, is the model's choice,
log entries 14 and 20). The spec marks D1, D5, D38, D44 as its own decisions. -/
def Obligations.IllegalWordsAndParametersAreRefused : Prop :=
  (∀ (s : State) (w : OpWord) (rest : List Stimulus), s.cfg.wellFormed = true → s.script = .op w :: rest → s.held = false →
      (∀ row ∈ opcodeTable, row.names w = false) →
      step s = .refused (.unassignedOp (opField w)) ∨ step s = .refused (.reservedBitSet w))
    ∧ (∀ s : State, s.cfg.wellFormed = false → step s = .refused .invalidParameters)
    ∧ ∀ c : Config, c.wellFormed = true ↔
        16 ≤ c.width
        ∧ (∀ n ∈ [c.debounceMs, c.slowMs, c.accelMs, c.startupWaitMs, c.configIdleMs], n.toNat < 2 ^ c.width ∧ n.toNat < 2 ^ 16)
        ∧ c.fastMs.toNat < c.slowMs.toNat
        ∧ 1 ≤ c.flashToggleMs.toNat ∧ c.flashToggleMs.toNat < 2 ^ 16
        ∧ c.intMin.toNat < c.intMax.toNat ∧ c.intMax.toNat ≤ 255
        ∧ (∀ (r : Nat) (h : r < 5), c.maxPatch[r].toNat ≤ 16383)
        ∧ c.debounceMs.toNat + 1 < c.startupWaitMs.toNat
        ∧ 1 ≤ c.activityMs.toNat ∧ c.activityMs.toNat < 2 ^ 16
        ∧ (c.nPhys = 2 ∨ c.nPhys = 3)
        ∧ c.scanOrder.first ≠ c.scanOrder.second ∧ c.scanOrder.second ≠ c.scanOrder.third ∧ c.scanOrder.first ≠ c.scanOrder.third

/-- MAIN held at a DWAIT: every other operation of MAIN waits, and the step is that DWAIT again; a TICK is taken (41_time_base.md
R92; that `held` carries this is the model's choice, log entry 8). -/
def Obligations.HeldMainRepeatsItsDwait : Prop :=
  ∀ (s : State) (w : OpWord) (rest : List Stimulus), s.cfg.wellFormed = true → s.held = true → s.script = .op w :: rest →
    (w ≠ tickWord → w ≠ dwaitWord → step s = exec .dwait s)
      ∧ (w = dwaitWord → step s = exec .dwait { s with script := rest })
      ∧ (w = tickWord → step s = exec .tick { s with script := rest })

/-- A block that runs by itself: with an empty script the step is a TICK or, with the pins the environment gives, an FSTEP, for which a
held MAIN repeats its DWAIT; the free value `Config.environment` says which (44_mode_fsm.md R132; that the choice is a free value of
the draw counter is the model's, log entry 5). The spec marks D7 as its own decision. -/
def Obligations.UnscriptedStepIsTickOrFstep : Prop :=
  ∀ s u : State, s.cfg.wellFormed = true → s.script = [] → u = { s with drawIndex := s.drawIndex + 1 } →
    step s = (Config.environment s.drawIndex).elim (exec .tick u) fun pins =>
      if s.held then exec .dwait u else exec (.fstep pins) u

/-! ## Time base -/

/-- TICK completes in every state; the counter goes up by one modulo `2^W`, the countdown goes down by one and stops at 0, and apart
from these only the shared flash registers can change (41_time_base.md R90, 10_state.md R32). The spec marks D6, D7 as its own
decisions. -/
def Obligations.TickAdvancesTheTimeBase : Prop :=
  ∀ s : State, ∃ t, exec .tick s = .next t
    ∧ t.ms = (s.ms + 1) % 2 ^ s.cfg.width
    ∧ t.delayCnt.toNat = s.delayCnt.toNat - 1
    ∧ t = { s with ms := t.ms, delayCnt := t.delayCnt, flashCnt := t.flashCnt, intensity := t.intensity, ind := t.ind,
                   actCnt := t.actCnt }
    ∧ SameStore s t

/-- Parts (b) and (c) of a TICK. While armed the countdown goes down; at its last count the intensity toggles, the countdown is
reloaded and the indicator, if there is one, is lit exactly at the minimum. With an indicator, not armed and the activity countdown
running, that goes down and puts the indicator out at 0. Otherwise each stands still (43_flash.md R123, R125). The spec marks D19, D20
as its own decisions. -/
def Obligations.TickRunsTheFlashCountdowns : Prop :=
  ∀ s : State, ∃ t, exec .tick s = .next t
    ∧ (s.flashArmed = true → s.flashCnt = 1 →
      t.intensity = (if s.intensity = s.cfg.intMax then s.cfg.intMin else s.cfg.intMax)
        ∧ t.flashCnt = s.cfg.flashToggleMs
        ∧ t.ind = (if s.cfg.extIndicator then decide (t.intensity = s.cfg.intMin) else s.ind))
    ∧ (s.flashArmed = true → s.flashCnt ≠ 1 →
      t.flashCnt = s.flashCnt - 1 ∧ t.intensity = s.intensity ∧ t.ind = s.ind)
    ∧ (s.flashArmed = false → t.flashCnt = s.flashCnt ∧ t.intensity = s.intensity)
    ∧ (s.cfg.extIndicator = true → s.flashArmed = false → s.actCnt ≠ 0 →
      t.actCnt = s.actCnt - 1 ∧ t.ind = (if s.actCnt = 1 then false else s.ind))
    ∧ (s.cfg.extIndicator = false ∨ s.flashArmed = true ∨ s.actCnt = 0 → t.actCnt = s.actCnt)
    ∧ (s.flashArmed = false → s.cfg.extIndicator = false ∨ s.actCnt = 0 → t.ind = s.ind)

/-- DLOAD loads the countdown when no delay is outstanding, changes nothing else, and is refused otherwise. DWAIT completes at 0 and
holds otherwise; no register of the block changes either way (41_time_base.md R91, R92; the mark `held` is the model's, log entry 8).
The spec marks D1, D31 as its own decisions. -/
def Obligations.DelayIsLoadedAndAwaited : Prop :=
  ∀ (n : BitVec 16) (s : State),
    decodeOp (0x02000000 ||| n.setWidth 32) = .ok (.dload n)
    ∧ (s.delayCnt = 0 → exec (.dload n) s = .next { s with delayCnt := n })
    ∧ (s.delayCnt ≠ 0 → exec (.dload n) s = .refused .delayOutstanding)
    ∧ decodeOp 0x03000000 = .ok .dwait
    ∧ (s.delayCnt = 0 → exec .dwait s = .next { s with held := false })
    ∧ (s.delayCnt ≠ 0 → exec .dwait s = .next { s with held := true })

/-- A delay of `n` is over after exactly `n` TICKs: whatever operations other than DLOAD are performed, the countdown stands at `n`
less the number of TICKs among them (41_time_base.md R93). The spec marks D6 as its own decision. -/
def Obligations.DelayCountsTicksExactly : Prop :=
  ∀ (ops : List Instr) (s t : State), (∀ n, Instr.dload n ∉ ops) → runOps ops s = .next t →
    t.delayCnt.toNat = s.delayCnt.toNat - ops.count .tick

/-- `elapsed` is the wrap-around difference: below `2^W`, and added to the older time modulo `2^W` it gives the newer one (00_scope.md
R10, 41_time_base.md R94). The spec marks D5 as its own decision. -/
def Obligations.ElapsedIsTheWraparoundDifference : Prop :=
  ∀ w now t : Nat, now < 2 ^ w → t < 2 ^ w →
    elapsed w now t < 2 ^ w ∧ (t + elapsed w now t) % 2 ^ w = now
      ∧ (t ≤ now → elapsed w now t = now - t) ∧ (now < t → elapsed w now t = now + 2 ^ w - t)

/-! ## Debounce engine -/

/-- SBEGIN begins a scan when none is in progress: these seven registers are written and nothing else; otherwise it is refused
(42_debounce.md R101). The spec marks D1, D13 as its own decisions. -/
def Obligations.SbeginBeginsAScan : Prop :=
  ∀ (len : BitVec 16) (ar : Bool) (s : State),
    decodeOp (0x10000000 ||| ((BitVec.ofBool ar).setWidth 32 <<< 16) ||| len.setWidth 32) = .ok (.sbegin len ar)
    ∧ (s.scanActive = false → exec (.sbegin len ar) s = .next
        { s with scanStart := s.ms, scanTimeout := len, scanAr := ar, scanIdx := 0, periodAcc := false, scanDone := false,
                 scanActive := true })
    ∧ (s.scanActive = true → exec (.sbegin len ar) s = .refused .scanInProgress)

/-- EVAL is refused without a scan, after the third evaluation of an iteration, and in a state that holds the reserved switch code
(42_debounce.md R102, 30_encoding.md R78; where the reserved code is met is the model's choice, log entry 10). The spec marks D3, D29
as its own decisions. -/
def Obligations.EvalIsRefusedWhenNotDue : Prop :=
  ∀ (pins : Pins) (s : State),
    (s.scanActive = false ∨ s.scanIdx = 3 → exec (.eval pins) s = .refused .noEvaluationDue)
    ∧ (s.scanActive = true → s.scanIdx ≠ 3 → (s.sw.up.st = 3 ∨ s.sw.down.st = 3 ∨ s.sw.mode.st = 3) →
        exec (.eval pins) s = .refused .reservedSwitchState)

/-- The reading of a switch: its own pin; with two switches Mode reads the conjunction of the two pins and the third pin is ignored.
Case COMBINED applies exactly with two switches, to Up and to Down, when both pins are asserted (42_debounce.md R102, R109,
30_encoding.md R73). The spec marks D9, D10 as its own decisions. -/
def Obligations.SwitchReadsItsPin : Prop :=
  ∀ (c : Config) (pins : Pins),
    asserted c .up pins = pins.getLsbD 0 ∧ asserted c .down pins = pins.getLsbD 1
    ∧ (c.nPhys ≠ 2 → asserted c .mode pins = pins.getLsbD 2)
    ∧ (c.nPhys = 2 → asserted c .mode pins = (pins.getLsbD 0 && pins.getLsbD 1))
    ∧ ∀ r, combined c r pins = true ↔
        c.nPhys = 2 ∧ (r = .up ∨ r = .down) ∧ pins.getLsbD 0 = true ∧ pins.getLsbD 1 = true

/-- EVAL case PRESS: a released switch that reads asserted becomes PressedUnconfirmed with both timestamps at the snapshot, and the
evaluation advances; nothing else changes (42_debounce.md R103). -/
def Obligations.PressStartsTheDebounce : Prop :=
  ∀ (r : Role) (pins : Pins) (s : State), EvalDue r s → combined s.cfg r pins = false → asserted s.cfg r pins = true →
    (s.sw.get r).st = 0 →
    exec (.eval pins) s = .next
      { s with sw := s.sw.set r { st := 1, downSince := s.ms, firstDown := s.ms }, scanIdx := s.scanIdx + 1 }

/-- EVAL case CONFIRM: a PressedUnconfirmed switch that reads asserted qualifies exactly when more than `DEBOUNCE_MS` has elapsed since
the press: it is confirmed with its timestamps kept, and the scan ends with its event, UP for Up, DOWN for Down, MODE for Mode; at the
threshold or below, the evaluation only advances (42_debounce.md R104, R108, 30_encoding.md R76). The spec marks D2, D12 as its own
decisions. -/
def Obligations.ConfirmNeedsMoreThanTheThreshold : Prop :=
  ∀ (r : Role) (ev : Event) (pins : Pins) (s : State), EvalDue r s → combined s.cfg r pins = false → asserted s.cfg r pins = true →
    (s.sw.get r).st = 1 → (r = .up ∧ ev = .up) ∨ (r = .down ∧ ev = .down) ∨ (r = .mode ∧ ev = .mode) →
    (s.cfg.debounceMs.toNat < elapsed s.cfg.width s.ms (s.sw.get r).downSince →
      exec (.eval pins) s = .next
        { s with sw := s.sw.set r { s.sw.get r with st := 2 }, scanResult := ev, scanDone := true, scanActive := false })
    ∧ (elapsed s.cfg.width s.ms (s.sw.get r).downSince ≤ s.cfg.debounceMs.toNat →
      exec (.eval pins) s = .next { s with scanIdx := s.scanIdx + 1 })

/-- EVAL case HELD: a confirmed switch that reads asserted and to which autorepeat does not apply only advances (42_debounce.md
R105). -/
def Obligations.HeldSwitchOnlyAdvances : Prop :=
  ∀ (r : Role) (pins : Pins) (s : State), EvalDue r s → combined s.cfg r pins = false → asserted s.cfg r pins = true →
    (s.sw.get r).st = 2 → (s.scanAr = false ∨ r ∉ s.cfg.arRoles) →
    exec (.eval pins) s = .next { s with scanIdx := s.scanIdx + 1 }

/-- EVAL case REPEAT: the hold past `ACCEL_MS` raises the accumulator first; then the switch qualifies again, with `downSince` at the
snapshot and its event as the result, UP for Up, DOWN for Down, MODE for Mode, exactly when more than the period the accumulator stands
for has elapsed (42_debounce.md R106, R108, 30_encoding.md R76). The spec marks D2, D12, D13, D14 as its own decisions. -/
def Obligations.RepeatFollowsTheAcceleratedPeriod : Prop :=
  ∀ (r : Role) (ev : Event) (pins : Pins) (s : State) (acc : Bool) (period : BitVec 16), EvalDue r s →
    combined s.cfg r pins = false → asserted s.cfg r pins = true → (s.sw.get r).st = 2 → s.scanAr = true → r ∈ s.cfg.arRoles →
    (r = .up ∧ ev = .up) ∨ (r = .down ∧ ev = .down) ∨ (r = .mode ∧ ev = .mode) →
    acc = (if s.cfg.accelMs.toNat < elapsed s.cfg.width s.ms (s.sw.get r).firstDown then true else s.periodAcc) →
    period = (if acc then s.cfg.fastMs else s.cfg.slowMs) →
    (period.toNat < elapsed s.cfg.width s.ms (s.sw.get r).downSince →
      exec (.eval pins) s = .next
        { s with sw := s.sw.set r { s.sw.get r with downSince := s.ms }, periodAcc := acc, scanResult := ev, scanDone := true,
                 scanActive := false })
    ∧ (elapsed s.cfg.width s.ms (s.sw.get r).downSince ≤ period.toNat →
      exec (.eval pins) s = .next { s with periodAcc := acc, scanIdx := s.scanIdx + 1 })

/-- EVAL case RELEASE: a switch that reads deasserted is released, in whatever state it is, with its timestamps kept; the accumulator
falls to slow and the evaluation advances (42_debounce.md R107). The spec marks D13 as its own decision. -/
def Obligations.ReleaseIsImmediate : Prop :=
  ∀ (r : Role) (pins : Pins) (s : State), EvalDue r s → asserted s.cfg r pins = false →
    exec (.eval pins) s = .next
      { s with sw := s.sw.set r { s.sw.get r with st := 0 }, periodAcc := false, scanIdx := s.scanIdx + 1 }

/-- EVAL case COMBINED: with two switches and both pins asserted, the evaluation of Up or of Down releases both records, leaves the
Mode record and every timestamp, lowers the accumulator and advances (42_debounce.md R109). The spec marks D9, D10 as its own
decisions. -/
def Obligations.CombinedPressReleasesBothSwitches : Prop :=
  ∀ (r : Role) (pins : Pins) (s : State), EvalDue r s → s.cfg.nPhys = 2 → r ≠ .mode → pins.getLsbD 0 = true →
    pins.getLsbD 1 = true →
    exec (.eval pins) s = .next
      { s with
        sw := { up := { s.sw.up with st := 0 }, down := { s.sw.down with st := 0 }, mode := s.sw.mode }
        periodAcc := false
        scanIdx := s.scanIdx + 1 }

/-- PEND ends an iteration: while armed it first asks for the intensity; a timeout that is not zero and has elapsed ends the scan with
NONE and raises NoActivationWithinTimeout; otherwise the next iteration begins with a slow accumulator; out of place it is refused
(42_debounce.md R110, 60_exceptions.md R192). The spec marks D13, D16, D21 as its own decisions. -/
def Obligations.PendEndsTheIteration : Prop :=
  ∀ (s : State) (refresh : List Output),
    refresh = (if s.flashArmed then [.action (.dispSetIntensity s.intensity)] else []) →
    (s.scanActive = true → s.scanIdx = 3 → s.scanTimeout ≠ 0 →
        s.scanTimeout.toNat ≤ elapsed s.cfg.width s.ms s.scanStart →
        exec .pend s = .next
          { s with scanResult := .none, scanDone := true, scanActive := false,
                   trace := s.trace ++ refresh ++ [.raised .noActivationWithinTimeout] })
    ∧ (s.scanActive = true → s.scanIdx = 3 →
        (s.scanTimeout = 0 ∨ elapsed s.cfg.width s.ms s.scanStart < s.scanTimeout.toNat) →
        exec .pend s = .next { s with scanIdx := 0, periodAcc := false, trace := s.trace ++ refresh })
    ∧ (s.scanActive = false ∨ s.scanIdx ≠ 3 → exec .pend s = .refused .iterationNotComplete)

/-- No activation from a short press: from a state in which the switch is released and no result of it is pending, no sequence of
operations with at most `DEBOUNCE_MS` TICKs, with any pins, makes the scan return its event (42_debounce.md R113 (a)). The spec marks
D12, D17 as its own decisions. -/
def Obligations.ShortPressNeverActivates : Prop :=
  ∀ (r : Role) (ops : List Instr) (s t : State), s.cfg.wellFormed = true → (s.sw.get r).st = 0 →
    activated r s = false → ops.count .tick ≤ s.cfg.debounceMs.toNat → runOps ops s = .next t → activated r t = false

/-- One activation per hold, at unit level and in a run of FSTEPs: while every sample reads a confirmed switch asserted, and no
operation is performed with autorepeat enabled for it by the scan, its record stays as it is and no scan returns its event again,
however long it lasts (42_debounce.md R113 (b)). The spec marks D12, D17 as its own decisions. -/
def Obligations.HoldWithoutAutorepeatYieldsNothingMore : Prop :=
  ∀ (r : Role) (ops : List Instr) (s t : State), (s.sw.get r).st = 2 → activated r s = false →
    (∀ i ∈ ops, ∀ pins, pinsSampled i = some pins → asserted s.cfg r pins = true ∧ combined s.cfg r pins = false) →
    throughout (fun _ u => !u.scanAr || !u.cfg.arRoles.contains r) ops s = true → runOps ops s = .next t →
    t.sw.get r = s.sw.get r ∧ activated r t = false

/-- The two-switch Mode: while every sample has both pins asserted, no scan returns Up or Down (42_debounce.md R109, 95_test_vectors.md
S10). The spec marks D9, D10 as its own decisions. -/
def Obligations.CombinedPressNeverActivatesOneSwitch : Prop :=
  ∀ (ops : List Instr) (s t : State), s.cfg.nPhys = 2 → activated .up s = false → activated .down s = false →
    (∀ i ∈ ops, ∀ pins, pinsSampled i = some pins → pins.getLsbD 0 = true ∧ pins.getLsbD 1 = true) →
    runOps ops s = .next t → activated .up t = false ∧ activated .down t = false

/-! ## Flash controller -/

/-- FSTART arms flashing from the maximum with a full countdown and ends an activity indication, emitting nothing; FSTOP disarms and
restores the maximum by an explicit call, whatever the state was. Neither changes anything else (43_flash.md R121, R122). The spec
marks D18, D20, D34 as its own decisions. -/
def Obligations.FlashingIsArmedAndDisarmed : Prop :=
  decodeOp 0x20000000 = .ok .fstart ∧ decodeOp 0x21000000 = .ok .fstop ∧
  ∀ s : State,
    exec .fstart s = .next
      { s with flashArmed := true, intensity := s.cfg.intMax, flashCnt := s.cfg.flashToggleMs, actCnt := 0, ind := false }
    ∧ exec .fstop s = .next
      { s with flashArmed := false, intensity := s.cfg.intMax, ind := false,
               trace := s.trace ++ [.action (.dispSetIntensity s.cfg.intMax)] }

/-- ACT lights the indicator for `ACTIVITY_MS` where there is one and flashing is not armed, and does nothing otherwise (43_flash.md
R124). The spec marks D20 as its own decision. -/
def Obligations.ActLightsTheIndicator : Prop :=
  decodeOp 0x22000000 = .ok .act ∧
  ∀ s : State,
    (s.cfg.extIndicator = true → s.flashArmed = false →
      exec .act s = .next { s with ind := true, actCnt := s.cfg.activityMs })
    ∧ (s.cfg.extIndicator = false ∨ s.flashArmed = true → exec .act s = .next s)

/-- The square wave: `k` TICKs after FSTART the intensity is the maximum in even half-periods of `FLASH_TOGGLE_MS` and the minimum in
odd ones, and the countdown stands at what is left of the half-period (43_flash.md R120, R123). The spec marks D18, D19 as its own
decisions. -/
def Obligations.FlashingIsASquareWave : Prop :=
  ∀ (k : Nat) (s t : State), s.cfg.wellFormed = true → runOps (.fstart :: List.replicate k .tick) s = .next t →
    t.intensity = (if k / s.cfg.flashToggleMs.toNat % 2 = 0 then s.cfg.intMax else s.cfg.intMin)
      ∧ t.flashCnt.toNat = s.cfg.flashToggleMs.toNat - k % s.cfg.flashToggleMs.toNat
      ∧ t.flashArmed = true

/-! ## Mode state machine -/

/-- BOOT initialises the display and loads the configuration: the decodings of the store, the reads in their order, and nothing else
written; a booted block refuses it (44_mode_fsm.md R131, 45_collaborators.md R179). The spec marks D22, D23 as its own decisions. -/
def Obligations.BootLoadsTheConfiguration : Prop :=
  decodeOp 0x30000000 = .ok .boot ∧
  ∀ s : State,
    (s.booted = false → ∃ t, exec .boot s = .next t
      ∧ t.channel.toNat = (Memory.read s.nv 0).toNat % 16
      ∧ t.range.toNat = (Memory.read s.nv 1).toNat % 5
      ∧ t.zeroBased = decide (Memory.read s.nv 4 ≠ 0)
      ∧ t.patch.toNat = (if s.cfg.restoreLast
          then min ((Memory.read s.nv 2).toNat * 256 + (Memory.read s.nv 3).toNat) (maxPatchOf s.cfg t.range).toNat else 0)
      ∧ t = { s with
          channel := t.channel, range := t.range, zeroBased := t.zeroBased, patch := t.patch, work := t.patch, mode := 0,
          booted := true,
          trace := s.trace ++ [.action .dispInit, .action (.storeRead 0), .action (.storeRead 1), .action (.storeRead 4)]
            ++ (if s.cfg.restoreLast then [.action (.storeRead 2), .action (.storeRead 3)] else []) }
      ∧ SameStore s t)
    ∧ (s.booted = true → exec .boot s = .refused .alreadyBooted)

/-- FSTEP performs exactly one other operation, the first whose line applies; the scan it begins is the one the mode asks for
(44_mode_fsm.md R132, R133, R158). The spec marks D15, D29 as its own decisions. -/
def Obligations.FstepPerformsOneOperation : Prop :=
  ∀ (pins : Pins) (s : State),
    (s.booted = false → exec (.fstep pins) s = exec .boot s)
    ∧ (s.booted = true → s.scanDone = true → exec (.fstep pins) s = exec (.event s.scanResult) s)
    ∧ (s.booted = true → s.scanDone = false → s.scanActive = true → s.scanIdx ≠ 3 → exec (.fstep pins) s = exec (.eval pins) s)
    ∧ (s.booted = true → s.scanDone = false → s.scanActive = true → s.scanIdx = 3 → exec (.fstep pins) s = exec .pend s)
    ∧ (s.booted = true → s.scanDone = false → s.scanActive = false →
        (s.mode = 0 → exec (.fstep pins) s = exec (.sbegin s.cfg.startupWaitMs false) s)
        ∧ (s.mode = 1 ∨ s.mode = 2 → exec (.fstep pins) s = exec (.sbegin s.cfg.configIdleMs false) s)
        ∧ (s.mode = 3 → exec (.fstep pins) s = exec (.sbegin 0 false) s)
        ∧ (s.mode = 4 → exec (.fstep pins) s = exec (.sbegin 0 true) s)
        ∧ (5 ≤ s.mode.toNat → exec (.fstep pins) s = .refused .reservedMode))

/-- FSTEP is enabled in every state that meets the block's invariant: it completes, with any pins (44_mode_fsm.md R132, 30_encoding.md
R82). The spec marks D29 as its own decision. -/
def Obligations.FstepCompletesInEveryLegalState : Prop :=
  ∀ (pins : Pins) (s : State), Inv s → ∃ t, exec (.fstep pins) s = .next t

/-- EVENT consumes the result and performs the route that the mode and the event select, and completes; it is refused before BOOT,
during a scan, and in a reserved mode (44_mode_fsm.md R134, R158). A route that is not selected is refused when it is taken by itself
(that the model names routes as instructions is its choice, log entry 11). The spec marks D29, D40 as its own decisions. -/
def Obligations.EventPerformsTheSelectedRoute : Prop :=
  (∀ (m : Mode) (ev : Event) (s : State), CanPerform m s →
      exec (.event ev) s = exec (Instr.ofRoute m ev) { s with scanDone := false }
      ∧ ∃ t, exec (.event ev) s = .next t)
    ∧ (∀ (ev : Event) (s : State), s.booted = false ∨ s.scanActive = true → exec (.event ev) s = .refused .eventNotAccepted)
    ∧ (∀ (ev : Event) (s : State), s.booted = true → s.scanActive = false → 5 ≤ s.mode.toNat →
        exec (.event ev) s = .refused .reservedMode)
    ∧ ∀ (m : Mode) (ev : Event) (s : State), s.booted = false ∨ s.scanActive = true ∨ s.mode ≠ m.code →
        exec (Instr.ofRoute m ev) s = .refused .routeNotSelected

/-- `MAX_PATCH[range]`, `inc`, `dec`, `clamp` and `shown` as numbers (00_scope.md R6, 44_mode_fsm.md R135). The spec marks D27 as its
own decision. -/
def Obligations.PatchFunctionsWrapAndClamp : Prop :=
  ∀ (c : Config) (r : BitVec 3) (p : BitVec 14) (n : Nat) (z : Bool),
    (∀ h : r.toNat < 5, maxPatchOf c r = c.maxPatch[r.toNat])
    ∧ (incPatch c r p).toNat = (if (maxPatchOf c r).toNat ≤ p.toNat then 0 else p.toNat + 1)
    ∧ (decPatch c r p).toNat = (if p.toNat = 0 then (maxPatchOf c r).toNat else p.toNat - 1)
    ∧ (clampPatch c r n).toNat = min n (maxPatchOf c r).toNat
    ∧ shown z p = (if z then p.toNat else p.toNat + 1)

/-! ## Routes -/

/-- The routes of StartupConfig. NONE: to Normal, the patch shown. UP and MODE: to ConfigChannel, flashing armed, channel and range
shown. DOWN: to ConfigDisplay, flashing armed, the flag shown. Nothing else changes (44_mode_fsm.md R138 to R141). The spec marks D18,
D20, D22, D28 as its own decisions. -/
def Obligations.StartupRoutesEnterTheirModes : Prop :=
  decodeRoute 0b00000 = .ok .routeStartupConfigNone ∧ decodeRoute 0b00001 = .ok .routeStartupConfigUp
  ∧ decodeRoute 0b00010 = .ok .routeStartupConfigDown ∧ decodeRoute 0b00011 = .ok .routeStartupConfigMode ∧
  ∀ (s armed : State), CanPerform .startupConfig s →
    armed = { s with
      flashArmed := true, intensity := s.cfg.intMax, flashCnt := s.cfg.flashToggleMs, actCnt := 0, ind := false } →
    exec .routeStartupConfigNone s = .next
        { s with mode := 3, trace := s.trace ++ [.action (.dispShowPatch (shownNumber s.zeroBased s.patch.toNat))] }
      ∧ exec .routeStartupConfigUp s = .next
        { armed with mode := 1, trace := s.trace ++ [.action (.dispShowChannelRange s.channel s.range)] }
      ∧ exec .routeStartupConfigMode s = .next
        { armed with mode := 1, trace := s.trace ++ [.action (.dispShowChannelRange s.channel s.range)] }
      ∧ exec .routeStartupConfigDown s = .next
        { armed with mode := 2, trace := s.trace ++ [.action (.dispShowZeroBased s.zeroBased)] }

/-- Routes ConfigChannel / NONE, ConfigDisplay / NONE and ConfigDisplay / MODE: ConfigExit. Flashing is disarmed with the restore call,
the configuration is saved if and only if a stored byte differs, the mode becomes Normal and the patch is shown; a failed verification
stops nothing, and the bytes at the other offsets and all other registers stay (44_mode_fsm.md R137, R142, R146, R149). The spec marks
D20, D22, D25, D26 as its own decisions. -/
def Obligations.ConfigExitSavesAndReturnsToNormal : Prop :=
  decodeRoute 0b00100 = .ok .routeConfigChannelNone ∧ decodeRoute 0b01000 = .ok .routeConfigDisplayNone
  ∧ decodeRoute 0b01011 = .ok .routeConfigDisplayMode ∧
  ∀ (i : Instr) (s : State), Memory.wf s.nv = true →
    (i = .routeConfigChannelNone ∧ CanPerform .configChannel s)
      ∨ ((i = .routeConfigDisplayNone ∨ i = .routeConfigDisplayMode) ∧ CanPerform .configDisplay s) →
    ∃ t out, exec i s = .next t
      ∧ ConfigSaved (BitVec.ofNat 8 s.channel.toNat) (BitVec.ofNat 8 s.range.toNat) (if s.zeroBased then 1 else 0) s t out
      ∧ t = { s with
          mode := 3, flashArmed := false, intensity := s.cfg.intMax, ind := false, nv := t.nv, cfgErr := t.cfgErr,
          outcomes := t.outcomes, drawIndex := t.drawIndex,
          trace := s.trace ++ [.action (.dispSetIntensity s.cfg.intMax)] ++ out
            ++ [.action (.dispShowPatch (shownNumber s.zeroBased s.patch.toNat))] }

/-- Routes ConfigChannel / UP and ConfigChannel / DOWN: the channel goes up or down by one modulo 16 and is shown; the mode stays
(44_mode_fsm.md R143, R144). -/
def Obligations.ConfigChannelStepsTheChannel : Prop :=
  decodeRoute 0b00101 = .ok .routeConfigChannelUp ∧ decodeRoute 0b00110 = .ok .routeConfigChannelDown ∧
  ∀ (s : State) (up down : BitVec 4), CanPerform .configChannel s →
    up.toNat = (s.channel.toNat + 1) % 16 → down.toNat = (s.channel.toNat + 15) % 16 →
    exec .routeConfigChannelUp s = .next
        { s with channel := up, trace := s.trace ++ [.action (.dispShowChannelRange up s.range)] }
      ∧ exec .routeConfigChannelDown s = .next
        { s with channel := down, trace := s.trace ++ [.action (.dispShowChannelRange down s.range)] }

/-- Route ConfigChannel / MODE: the range goes up by one modulo 5, the patch is clamped to the new range, channel and range are shown;
the working copy stays (44_mode_fsm.md R145). The spec marks D24, D43 as its own decisions. -/
def Obligations.RangeChangeClampsThePatch : Prop :=
  decodeRoute 0b00111 = .ok .routeConfigChannelMode ∧
  ∀ (s : State) (r : BitVec 3) (p : BitVec 14), CanPerform .configChannel s →
    r.toNat = (s.range.toNat + 1) % 5 → p.toNat = min s.patch.toNat (maxPatchOf s.cfg r).toNat →
    exec .routeConfigChannelMode s = .next
      { s with range := r, patch := p, trace := s.trace ++ [.action (.dispShowChannelRange s.channel r)] }

/-- Routes ConfigDisplay / UP and ConfigDisplay / DOWN: the zero-based flag is toggled and shown (44_mode_fsm.md R147, R148). The spec
marks D28 as its own decision. -/
def Obligations.ConfigDisplayTogglesTheFlag : Prop :=
  decodeRoute 0b01001 = .ok .routeConfigDisplayUp ∧ decodeRoute 0b01010 = .ok .routeConfigDisplayDown ∧
  ∀ (s t : State), CanPerform .configDisplay s →
    t = { s with zeroBased := !s.zeroBased, trace := s.trace ++ [.action (.dispShowZeroBased (!s.zeroBased))] } →
    exec .routeConfigDisplayUp s = .next t ∧ exec .routeConfigDisplayDown s = .next t

/-- Routes Normal / NONE and Mode2 / NONE: no register changes, no action (44_mode_fsm.md R150, R154). The spec marks D29 as its own
decision. -/
def Obligations.TimeoutDoesNothingInNormalAndMode2 : Prop :=
  decodeRoute 0b01100 = .ok .routeNormalNone ∧ decodeRoute 0b10000 = .ok .routeMode2None
  ∧ (∀ s : State, CanPerform .normal s → exec .routeNormalNone s = .next s)
  ∧ ∀ s : State, CanPerform .mode2 s → exec .routeMode2None s = .next s

/-- Routes Normal / UP and Normal / DOWN: the patch steps with wrap-around, is transmitted, lights the activity indication, is stored
if restore is built in, and is shown, in this order; the mode and all other registers stay (44_mode_fsm.md R136, R151, R152). The spec
marks D20, D27, D36 as its own decisions. -/
def Obligations.NormalStepsAndSendsThePatch : Prop :=
  decodeRoute 0b01101 = .ok .routeNormalUp ∧ decodeRoute 0b01110 = .ok .routeNormalDown ∧
  ∀ (i : Instr) (s : State) (p : BitVec 14) (max : Nat), CanPerform .normal s → Memory.wf s.nv = true →
    max = (maxPatchOf s.cfg s.range).toNat →
    (i = .routeNormalUp ∧ p.toNat = (if max ≤ s.patch.toNat then 0 else s.patch.toNat + 1))
      ∨ (i = .routeNormalDown ∧ p.toNat = (if s.patch.toNat = 0 then max else s.patch.toNat - 1)) →
    ∃ t out, exec i s = .next t
      ∧ LastStored p.toNat s t out
      ∧ t = { s with
          patch := p,
          ind := if s.cfg.extIndicator && !s.flashArmed then true else s.ind,
          actCnt := if s.cfg.extIndicator && !s.flashArmed then s.cfg.activityMs else s.actCnt,
          nv := t.nv, cfgErr := t.cfgErr, outcomes := t.outcomes, drawIndex := t.drawIndex,
          trace := s.trace ++ midiOutputs s.cfg s.channel.toNat p.toNat s.range.toNat ++ out
            ++ [.action (.dispShowPatch (shownNumber s.zeroBased p.toNat))] }

/-- Route Normal / MODE: to Mode2 with a working copy of the patch, flashing armed, nothing emitted (44_mode_fsm.md R153). The spec
marks D18, D20, D37 as its own decisions. -/
def Obligations.NormalModeOpensTheJump : Prop :=
  decodeRoute 0b01111 = .ok .routeNormalMode ∧
  ∀ s : State, CanPerform .normal s →
    exec .routeNormalMode s = .next
      { s with
        work := s.patch, mode := 4, flashArmed := true, intensity := s.cfg.intMax, flashCnt := s.cfg.flashToggleMs, actCnt := 0,
        ind := false }

/-- Routes Mode2 / UP and Mode2 / DOWN: only the working copy steps, with the wrap rule of Normal, and the candidate is shown; nothing
is transmitted or stored (44_mode_fsm.md R155, R156). The spec marks D27 as its own decision. -/
def Obligations.Mode2StepsTheWorkingCopyOnly : Prop :=
  decodeRoute 0b10001 = .ok .routeMode2Up ∧ decodeRoute 0b10010 = .ok .routeMode2Down ∧
  ∀ (s : State) (up down : BitVec 14) (max : Nat), CanPerform .mode2 s → max = (maxPatchOf s.cfg s.range).toNat →
    up.toNat = (if max ≤ s.work.toNat then 0 else s.work.toNat + 1) →
    down.toNat = (if s.work.toNat = 0 then max else s.work.toNat - 1) →
    exec .routeMode2Up s = .next
        { s with work := up, trace := s.trace ++ [.action (.dispShowPatch (shownNumber s.zeroBased up.toNat))] }
      ∧ exec .routeMode2Down s = .next
        { s with work := down, trace := s.trace ++ [.action (.dispShowPatch (shownNumber s.zeroBased down.toNat))] }

/-- Route Mode2 / MODE: the working copy becomes the patch and is transmitted once, stored if restore is built in, and shown; then
flashing is disarmed with the restore call and the mode becomes Normal (44_mode_fsm.md R136, R157). The spec marks D20, D27, D36 as its
own decisions. -/
def Obligations.Mode2CommitSendsTheWorkingCopy : Prop :=
  decodeRoute 0b10011 = .ok .routeMode2Mode ∧
  ∀ s : State, CanPerform .mode2 s → Memory.wf s.nv = true →
    ∃ t out, exec .routeMode2Mode s = .next t
      ∧ LastStored s.work.toNat s t out
      ∧ t = { s with
          patch := s.work, mode := 3, flashArmed := false, intensity := s.cfg.intMax, ind := false,
          actCnt := if s.cfg.extIndicator && !s.flashArmed then s.cfg.activityMs else s.actCnt,
          nv := t.nv, cfgErr := t.cfgErr, outcomes := t.outcomes, drawIndex := t.drawIndex,
          trace := s.trace ++ midiOutputs s.cfg s.channel.toNat s.work.toNat s.range.toNat ++ out
            ++ [.action (.dispShowPatch (shownNumber s.zeroBased s.work.toNat)),
                .action (.dispSetIntensity s.cfg.intMax)] }

/-- Browsing in Mode2: whatever operations follow, ticks, scans, evaluations and FSTEPs among them, as long as none delivers the event
MODE, the patch and every byte of the store stay, nothing is transmitted and the block stays in Mode2 (44_mode_fsm.md R159 (c)). -/
def Obligations.Mode2BrowsingTransmitsNothing : Prop :=
  ∀ (ops : List Instr) (s t : State), s.booted = true → s.mode = 4 → .routeMode2Mode ∉ ops →
    throughout (fun i u => delivered i u != some .mode) ops s = true → runOps ops s = .next t →
    t.booted = true ∧ t.mode = 4 ∧ t.patch = s.patch ∧ SameStore s t
      ∧ ∃ out, t.trace = s.trace ++ out ∧ ∀ o ∈ out, o.isMidi = false ∧ o.isStoreWrite = false

/-- MidiSend emits the two or five bytes of MIDI 1.0, contiguous and in order, every data byte below 128, and changes nothing else
(45_collaborators.md R171). -/
def Obligations.MidiSendEmitsTheByteSequence : Prop :=
  ∀ (s : State) (channel : BitVec 4) (patch : BitVec 14) (range : BitVec 3) (out : List Output),
    out = midiOutputs s.cfg channel.toNat patch.toNat range.toNat →
    midiSend channel patch range s = { s with trace := s.trace ++ out }
      ∧ (s.cfg.bankSwitch = true ∨ range.toNat ≠ 0 → out.length = 5)
      ∧ (s.cfg.bankSwitch = false → range.toNat = 0 → out.length = 2)
      ∧ patch.toNat / 128 < 128 ∧ patch.toNat % 128 < 128

/-! ## The store -/

/-- A byte write: its action is emitted; the byte written stands at the offset, or the byte the outcome names does, and a byte that
differs raises StorageVerifyFailure of the offset; every other offset reads as before, and the registers stay (20_memory.md R53; that
the outcome is an input or a free value is the model's form of it, log entry 6). The spec marks D35 as its own decision. -/
def Obligations.ByteWriteIsVerified : Prop :=
  ∀ (o : NvOffset) (v : Byte) (s : State), Memory.wf s.nv = true →
    (s.nextOutcome = .ok → Memory.read (s.memWrite o v).nv o.addr = v)
    ∧ (∀ b, s.nextOutcome = .fail b → Memory.read (s.memWrite o v).nv o.addr = b)
    ∧ ((Memory.read (s.memWrite o v).nv o.addr = v ∧ s.writeResult v = .success)
      ∨ (Memory.read (s.memWrite o v).nv o.addr ≠ v ∧ s.writeResult v = .verifyFailure))
    ∧ (∀ off, off ≠ o.addr → Memory.read (s.memWrite o v).nv off = Memory.read s.nv off)
    ∧ s.memWrite o v = { s with
        nv := (s.memWrite o v).nv, outcomes := (s.memWrite o v).outcomes, drawIndex := (s.memWrite o v).drawIndex,
        trace := s.trace ++ [.action (.storeWrite o.addr v)]
          ++ verifyOutput o.addr v (Memory.read (s.memWrite o v).nv o.addr) }

/-- Write minimisation: after a save that reported no failure a second save of the same values writes nothing: it makes the three reads
and leaves the state otherwise as it is (45_collaborators.md R178, 20_memory.md R57). The spec marks D26 as its own decision. -/
def Obligations.SecondSaveWritesNothing : Prop :=
  ∀ (c : BitVec 4) (r : BitVec 3) (z : Bool) (s t : State), Memory.wf s.nv = true → t = configSave c r z s → t.cfgErr = false →
    configSave c r z t =
      { t with trace := t.trace ++ [.action (.storeRead 0), .action (.storeRead 1), .action (.storeRead 4)] }

/-! ## The whole machine -/

/-- A power cycle sets every register that Table RST gives a value to that value, and every other to what was drawn, a W-bit register
modulo `2^W`, under every parameter assignment; the store is as it was (10_state.md R33, 70_reset_and_hazards.md R210; that it is a
stimulus with a draw is the model's form of it, log entries 2 and 12). The spec marks D30 as its own decision. -/
def Obligations.PowerOnSetsTheResetTable : Prop :=
  ∀ (s : State) (d : ResetDraw) (rest : List Stimulus) (m : Nat), m = 2 ^ s.cfg.width →
    (s.cfg.wellFormed = true → s.script = .powerCycle d :: rest → step s = .next (({ s with script := rest } : State).powerCycle d))
    ∧ s.powerCycle d = { s with
      ms := d.ms % m
      delayCnt := 0
      sw :=
        { up := { st := 0, downSince := d.upDownSince % m, firstDown := d.upFirstDown % m }
          down := { st := 0, downSince := d.downDownSince % m, firstDown := d.downFirstDown % m }
          mode := { st := 0, downSince := d.modeDownSince % m, firstDown := d.modeFirstDown % m } }
      scanActive := false, scanDone := false, scanIdx := 0, scanResult := .none
      scanStart := d.scanStart % m
      scanTimeout := 0, scanAr := false, periodAcc := false, flashArmed := false
      flashCnt := d.flashCnt
      intensity := s.cfg.intMax
      ind := false, actCnt := 0, booted := false, mode := 0, patch := 0, work := 0, channel := 0, range := 0
      zeroBased := false, cfgErr := false, held := false }

/-- The invariant of the block holds after power-on, under every legal assignment, every draw and every store in canonical form, and so
at the reset state (10_state.md R33). -/
def Obligations.PowerOnMeetsTheInvariant : Prop :=
  (∀ (c : Config) (d : ResetDraw) (nv : Memory), c.wellFormed = true → Memory.wf nv = true → Inv (State.powerOn c d nv))
    ∧ Inv State.reset

/-- Every step keeps the invariant: legal codes, W-bit times, the canonical store, `0 <= patch <= MAX_PATCH[range]`, the working copy
in range in Mode2, the flash controller's invariants, and at most one result (10_state.md R22, 43_flash.md R120). -/
def Obligations.EveryStepKeepsTheInvariant : Prop :=
  ∀ s t : State, Inv s → step s = .next t → Inv t

/-- A block that runs by itself is never refused: from a state that meets the invariant, with nothing in the script, the step completes
(60_exceptions.md R193). The spec marks D29 as its own decision. -/
def Obligations.UnscriptedRunIsNeverRefused : Prop :=
  ∀ s : State, Inv s → s.script = [] → ∃ t, step s = .next t ∧ t.script = []

/-- Flashing is armed exactly in an attention mode: every operation and route but the unit-level FSTART and FSTOP keeps it so
(43_flash.md R126). -/
def Obligations.FlashingIsArmedExactlyInAttentionModes : Prop :=
  AttentionInv State.reset
    ∧ ∀ (i : Instr) (s t : State), i ≠ .fstart → i ≠ .fstop → AttentionInv s → exec i s = .next t → AttentionInv t

/-- Write rights. No operation of agent MAIN and no route writes `ms`; the switch records are written by EVAL, alone or inside FSTEP,
only; every byte of the store is kept by all but EVENT, FSTEP, the three exits from configuration and the three routes that send a patch
(10_state.md R23, R30, R32; 42_debounce.md R112). -/
def Obligations.WriteRightsAreKept : Prop :=
  ∀ (i : Instr) (s t : State), exec i s = .next t →
    (i ≠ .tick → t.ms = s.ms) ∧ ((∀ pins, i ≠ .eval pins) → (∀ pins, i ≠ .fstep pins) → t.sw = s.sw)
    ∧ ((∀ ev, i ≠ .event ev) → (∀ pins, i ≠ .fstep pins) → i ≠ .routeConfigChannelNone → i ≠ .routeConfigDisplayNone →
        i ≠ .routeConfigDisplayMode → i ≠ .routeNormalUp → i ≠ .routeNormalDown → i ≠ .routeMode2Mode → SameStore s t)

/-- The indicator of failed saves is sticky, and the trace is only ever added to (10_state.md R26, 00_scope.md R9). The spec marks D25
as its own decision. -/
def Obligations.FailureIndicatorIsSticky : Prop :=
  ∀ (i : Instr) (s t : State), exec i s = .next t →
    (s.cfgErr = true → t.cfgErr = true) ∧ (∃ out, t.trace = s.trace ++ out) ∧ t.cfg = s.cfg

/-- No MIDI byte is transmitted in StartupConfig, ConfigChannel or ConfigDisplay (44_mode_fsm.md R159 (b)). -/
def Obligations.ConfigurationModesTransmitNothing : Prop :=
  ∀ (i : Instr) (s t : State), s.mode = 0 ∨ s.mode = 1 ∨ s.mode = 2 → exec i s = .next t →
    ∃ out, t.trace = s.trace ++ out ∧ ∀ o ∈ out, o.isMidi = false

/-- The behaviour does not depend on the absolute value of the counter: an instruction performed with every time shifted by the same
number of ticks gives the result of performing it unshifted, shifted; a refusal stays that refusal (41_time_base.md R94). The spec
marks D5 as its own decision. -/
def Obligations.BehaviourIsTheSameFromEveryCounterValue : Prop :=
  ∀ (i : Instr) (k : Nat) (s : State), exec i (shiftTime k s) = mapNext (shiftTime k) (exec i s)

/-- What Table RST leaves unspecified is never read before it is written: clearing the timestamps of released switches, `scan_start`
outside a scan and `flash_cnt` while not armed changes no instruction's result but in those same places (10_state.md R33). The spec
marks D30 as its own decision. -/
def Obligations.UnspecifiedRegistersAreNeverRead : Prop :=
  ∀ (i : Instr) (s : State), mapNext liveState (exec i (liveState s)) = mapNext liveState (exec i s)

/-! ## Loss of power -/

/-- Loss of power inside an operation. The step keeps what the first `k` outputs of the operation did, and powers on. The outputs of
every instruction, all carried out, do to the store, the draws and the trace what the instruction does, and nothing else. So power lost
between the two writes of the last patch leaves the new high byte beside the old low byte, whatever number that is, and every other
byte as it was (20_memory.md R53, R55, R56; that it is a stimulus that counts outputs is the model's form of it, log entry 12). The
spec marks D36, D40 as its own decisions. -/
def Obligations.PowerLossLeavesWhatWasDone : Prop :=
  (∀ (s u t : State) (w : OpWord) (k : Nat) (d : ResetDraw) (rest : List Stimulus) (i : Instr) (out : List Output),
      s.cfg.wellFormed = true → s.script = .powerLoss w k d :: rest → s.held = false → decodeOp w = .ok i →
      u = { s with script := rest } → exec i u = .next t → t.trace = u.trace ++ out →
      step s = .next ((u.carryOutAll (out.take k)).powerCycle d))
    ∧ (∀ (i : Instr) (s t : State) (out : List Output), exec i s = .next t → t.trace = s.trace ++ out →
        s.carryOutAll out = { s with nv := t.nv, outcomes := t.outcomes, drawIndex := t.drawIndex, trace := t.trace })
    ∧ ∀ (s : State) (w : OpWord) (p : BitVec 14) (max : Nat) (d : ResetDraw) (rest : List Stimulus),
        s.cfg.wellFormed = true → s.cfg.restoreLast = true → s.held = false → CanPerform .normal s → Memory.wf s.nv = true →
        s.nextOutcome = .ok → max = (maxPatchOf s.cfg s.range).toNat →
        (w = 0x31000001 ∧ p.toNat = (if max ≤ s.patch.toNat then 0 else s.patch.toNat + 1))
          ∨ (w = 0x31000002 ∧ p.toNat = (if s.patch.toNat = 0 then max else s.patch.toNat - 1)) →
        (Memory.read s.nv 2).toNat * 256 + (Memory.read s.nv 3).toNat ≠ p.toNat →
        ∃ k t, step { s with script := .powerLoss w k d :: rest } = .next t ∧ t.booted = false
          ∧ Memory.read t.nv 2 = BitVec.ofNat 8 (p.toNat / 256)
          ∧ ∀ off, off ≠ 2 → Memory.read t.nv off = Memory.read s.nv off
end

