-- ==== Sys2Proof/Laws/Memory.lean ====
section
/-!
SUPPORT. The laws of the store: reading after writing, and the canonical form.
-/
namespace Sys2Proof.Machine

open Sys2Proof

@[simp] theorem Memory.read_nil (off : Nat) : Memory.read [] off = Memory.blank := rfl

theorem Memory.read_cons (a : Nat) (b : Byte) (m : Memory) (off : Nat) :
    Memory.read ((a, b) :: m) off = if off = a then b else Memory.read m off := rfl

/-- A write leaves every other offset, in whatever form the list is. -/
theorem Memory.read_write_other (m : Memory) (off off' : Nat) (v : Byte) (h : off' ≠ off) :
    Memory.read (Memory.write m off v) off' = Memory.read m off' := by
  induction m with
  | nil => by_cases hv : v = Memory.blank <;> simp [Memory.write, hv, Memory.read_cons, h]
  | cons c m ih =>
    obtain ⟨a, b⟩ := c
    by_cases h1 : off < a
    · by_cases hv : v = Memory.blank <;> simp [Memory.write, h1, hv, Memory.read_cons, h]
    · by_cases h2 : off = a
      · subst h2
        by_cases hv : v = Memory.blank <;> simp [Memory.write, hv, Memory.read_cons, h]
      · simp [Memory.write, h1, h2, Memory.read_cons, ih]

theorem Memory.rising_tail (c : Host.Cell) (m : Memory) (h : Memory.rising (c :: m) = true) :
    Memory.rising m = true := by
  cases m with
  | nil => rfl
  | cons d m => simp only [Memory.rising, Bool.and_eq_true] at h; exact h.2

theorem Memory.rising_lt (a : Nat) (b : Byte) (m : Memory) (h : Memory.rising ((a, b) :: m) = true) :
    ∀ c ∈ m, a < c.1 := by
  induction m generalizing a b with
  | nil => simp
  | cons d m ih =>
    obtain ⟨a', b'⟩ := d
    simp only [Memory.rising, Bool.and_eq_true, decide_eq_true_eq] at h
    intro c hc
    rcases List.mem_cons.mp hc with rfl | hc
    · exact h.1
    · exact Nat.lt_trans h.1 (ih a' b' h.2 c hc)

theorem Memory.read_of_absent (m : Memory) (off : Nat) (h : ∀ c ∈ m, c.1 ≠ off) :
    Memory.read m off = Memory.blank := by
  induction m with
  | nil => rfl
  | cons c m ih =>
    obtain ⟨a, b⟩ := c
    rw [Memory.read_cons, if_neg (fun e => h (a, b) (by simp) e.symm), ih (fun c hc => h c (by simp [hc]))]

/-- A byte that was written reads back, in the canonical form. -/
theorem Memory.read_write_same_of_rising (m : Memory) (off : Nat) (v : Byte) (h : Memory.rising m = true) :
    Memory.read (Memory.write m off v) off = v := by
  induction m with
  | nil => by_cases hv : v = Memory.blank <;> simp [Memory.write, hv, Memory.read_cons]
  | cons c m ih =>
    obtain ⟨a, b⟩ := c
    have hlt := Memory.rising_lt a b m h
    by_cases h1 : off < a
    · by_cases hv : v = Memory.blank
      · simp only [Memory.write, h1, hv, if_true]
        refine Memory.read_of_absent _ _ fun c hc => ?_
        rcases List.mem_cons.mp hc with rfl | hc
        · show a ≠ off
          omega
        · have := hlt c hc
          omega
      · simp [Memory.write, h1, hv, Memory.read_cons]
    · by_cases h2 : off = a
      · subst h2
        by_cases hv : v = Memory.blank
        · simp only [Memory.write, Nat.lt_irrefl, hv, if_true, if_false]
          exact Memory.read_of_absent _ _ fun c hc e => Nat.lt_irrefl _ (e ▸ hlt c hc)
        · simp [Memory.write, hv, Memory.read_cons]
      · simp [Memory.write, h1, h2, Memory.read_cons, ih (Memory.rising_tail _ _ h)]

theorem Memory.wf_iff (m : Memory) :
    Memory.wf m = true ↔ Memory.rising m = true ∧ ∀ c ∈ m, c.1 < 5 ∧ c.2 ≠ Memory.blank := by
  simp [Memory.wf, List.all_eq_true]

/-- Reading after writing the same offset. -/
theorem Memory.read_write_same (m : Memory) (off : Nat) (v : Byte) (h : Memory.wf m = true) :
    Memory.read (Memory.write m off v) off = v :=
  Memory.read_write_same_of_rising m off v ((Memory.wf_iff m).mp h).1

theorem Memory.mem_write (m : Memory) (off : Nat) (v : Byte) (c : Host.Cell) (hc : c ∈ Memory.write m off v) :
    c ∈ m ∨ (c = (off, v) ∧ v ≠ Memory.blank) := by
  induction m with
  | nil => by_cases hv : v = Memory.blank <;> simp_all [Memory.write]
  | cons d m ih =>
    obtain ⟨a, b⟩ := d
    simp only [Memory.write] at hc
    split at hc
    · split at hc
      · exact .inl hc
      · rcases List.mem_cons.mp hc with rfl | hc
        · exact .inr ⟨rfl, ‹_›⟩
        · exact .inl hc
    · split at hc
      · split at hc
        · exact .inl (List.mem_cons_of_mem _ hc)
        · rcases List.mem_cons.mp hc with rfl | hc
          · exact .inr ⟨by simp_all, ‹_›⟩
          · exact .inl (List.mem_cons_of_mem _ hc)
      · rcases List.mem_cons.mp hc with rfl | hc
        · exact .inl (by simp)
        · rcases ih hc with h | h
          · exact .inl (List.mem_cons_of_mem _ h)
          · exact .inr h

theorem Memory.rising_cons (a : Nat) (b : Byte) (m : Memory) (h : Memory.rising m = true) (hlt : ∀ c ∈ m, a < c.1) :
    Memory.rising ((a, b) :: m) = true := by
  cases m with
  | nil => rfl
  | cons d m => simp only [Memory.rising, Bool.and_eq_true, decide_eq_true_eq]; exact ⟨hlt d (by simp), h⟩

theorem Memory.rising_write (m : Memory) (off : Nat) (v : Byte) (h : Memory.rising m = true) :
    Memory.rising (Memory.write m off v) = true := by
  induction m with
  | nil => by_cases hv : v = Memory.blank <;> simp [Memory.write, hv, Memory.rising]
  | cons c m ih =>
    obtain ⟨a, b⟩ := c
    have hlt := Memory.rising_lt a b m h
    have ht := Memory.rising_tail _ _ h
    simp only [Memory.write]
    split
    case isTrue hoff =>
      split
      · exact h
      · refine Memory.rising_cons _ _ _ h fun c hc => ?_
        rcases List.mem_cons.mp hc with rfl | hc
        · exact hoff
        · exact Nat.lt_trans hoff (hlt c hc)
    case isFalse =>
      split
      · split
        · exact ht
        · exact Memory.rising_cons _ _ _ ht hlt
      · refine Memory.rising_cons _ _ _ (ih ht) fun c hc => ?_
        rcases Memory.mem_write m off v c hc with h' | ⟨rfl, _⟩
        · exact hlt c h'
        · show a < off
          omega

/-- A write at an offset that exists keeps the canonical form. -/
theorem Memory.wf_write (m : Memory) (off : Nat) (v : Byte) (h : Memory.wf m = true) (ho : off < 5) :
    Memory.wf (Memory.write m off v) = true := by
  obtain ⟨hr, hc⟩ := (Memory.wf_iff m).mp h
  refine (Memory.wf_iff _).mpr ⟨Memory.rising_write m off v hr, fun c hm => ?_⟩
  rcases Memory.mem_write m off v c hm with h' | ⟨rfl, hv⟩
  · exact hc c h'
  · exact ⟨ho, hv⟩

/-- Every offset of the store exists. -/
theorem NvOffset.addr_lt (o : NvOffset) : o.addr < 5 := by cases o <;> decide

/-- The numbers and the names of the offsets agree. -/
theorem NvOffset.ofNat?_addr (o : NvOffset) : NvOffset.ofNat? o.addr = some o := by cases o <;> rfl

end Sys2Proof.Machine
end

