-- ==== Sys2Proof/Laws/State.lean ====
section
/-!
SUPPORT. One lemma for each field of the state under each named update, true by rfl.
-/
namespace Sys2Proof.Machine

open Sys2Proof

@[simp] theorem emit_ms (s : State) (a : Action) : (s.emit a).ms = s.ms := rfl
@[simp] theorem emit_delayCnt (s : State) (a : Action) : (s.emit a).delayCnt = s.delayCnt := rfl
@[simp] theorem emit_sw (s : State) (a : Action) : (s.emit a).sw = s.sw := rfl
@[simp] theorem emit_scanActive (s : State) (a : Action) : (s.emit a).scanActive = s.scanActive := rfl
@[simp] theorem emit_scanIdx (s : State) (a : Action) : (s.emit a).scanIdx = s.scanIdx := rfl
@[simp] theorem emit_scanDone (s : State) (a : Action) : (s.emit a).scanDone = s.scanDone := rfl
@[simp] theorem emit_scanStart (s : State) (a : Action) : (s.emit a).scanStart = s.scanStart := rfl
@[simp] theorem emit_scanTimeout (s : State) (a : Action) : (s.emit a).scanTimeout = s.scanTimeout := rfl
@[simp] theorem emit_scanAr (s : State) (a : Action) : (s.emit a).scanAr = s.scanAr := rfl
@[simp] theorem emit_periodAcc (s : State) (a : Action) : (s.emit a).periodAcc = s.periodAcc := rfl
@[simp] theorem emit_scanResult (s : State) (a : Action) : (s.emit a).scanResult = s.scanResult := rfl
@[simp] theorem emit_flashArmed (s : State) (a : Action) : (s.emit a).flashArmed = s.flashArmed := rfl
@[simp] theorem emit_flashCnt (s : State) (a : Action) : (s.emit a).flashCnt = s.flashCnt := rfl
@[simp] theorem emit_intensity (s : State) (a : Action) : (s.emit a).intensity = s.intensity := rfl
@[simp] theorem emit_ind (s : State) (a : Action) : (s.emit a).ind = s.ind := rfl
@[simp] theorem emit_actCnt (s : State) (a : Action) : (s.emit a).actCnt = s.actCnt := rfl
@[simp] theorem emit_booted (s : State) (a : Action) : (s.emit a).booted = s.booted := rfl
@[simp] theorem emit_mode (s : State) (a : Action) : (s.emit a).mode = s.mode := rfl
@[simp] theorem emit_patch (s : State) (a : Action) : (s.emit a).patch = s.patch := rfl
@[simp] theorem emit_work (s : State) (a : Action) : (s.emit a).work = s.work := rfl
@[simp] theorem emit_channel (s : State) (a : Action) : (s.emit a).channel = s.channel := rfl
@[simp] theorem emit_range (s : State) (a : Action) : (s.emit a).range = s.range := rfl
@[simp] theorem emit_zeroBased (s : State) (a : Action) : (s.emit a).zeroBased = s.zeroBased := rfl
@[simp] theorem emit_cfgErr (s : State) (a : Action) : (s.emit a).cfgErr = s.cfgErr := rfl
@[simp] theorem emit_nv (s : State) (a : Action) : (s.emit a).nv = s.nv := rfl
@[simp] theorem emit_cfg (s : State) (a : Action) : (s.emit a).cfg = s.cfg := rfl
@[simp] theorem emit_held (s : State) (a : Action) : (s.emit a).held = s.held := rfl
@[simp] theorem emit_script (s : State) (a : Action) : (s.emit a).script = s.script := rfl
@[simp] theorem emit_outcomes (s : State) (a : Action) : (s.emit a).outcomes = s.outcomes := rfl
@[simp] theorem emit_drawIndex (s : State) (a : Action) : (s.emit a).drawIndex = s.drawIndex := rfl
@[simp] theorem emit_trace (s : State) (a : Action) : (s.emit a).trace = s.trace ++ [.action a] := rfl

@[simp] theorem emitAll_ms (s : State) (as : List Action) : (s.emitAll as).ms = s.ms := rfl
@[simp] theorem emitAll_delayCnt (s : State) (as : List Action) : (s.emitAll as).delayCnt = s.delayCnt := rfl
@[simp] theorem emitAll_sw (s : State) (as : List Action) : (s.emitAll as).sw = s.sw := rfl
@[simp] theorem emitAll_scanActive (s : State) (as : List Action) : (s.emitAll as).scanActive = s.scanActive := rfl
@[simp] theorem emitAll_scanIdx (s : State) (as : List Action) : (s.emitAll as).scanIdx = s.scanIdx := rfl
@[simp] theorem emitAll_scanDone (s : State) (as : List Action) : (s.emitAll as).scanDone = s.scanDone := rfl
@[simp] theorem emitAll_scanStart (s : State) (as : List Action) : (s.emitAll as).scanStart = s.scanStart := rfl
@[simp] theorem emitAll_scanTimeout (s : State) (as : List Action) : (s.emitAll as).scanTimeout = s.scanTimeout := rfl
@[simp] theorem emitAll_scanAr (s : State) (as : List Action) : (s.emitAll as).scanAr = s.scanAr := rfl
@[simp] theorem emitAll_periodAcc (s : State) (as : List Action) : (s.emitAll as).periodAcc = s.periodAcc := rfl
@[simp] theorem emitAll_scanResult (s : State) (as : List Action) : (s.emitAll as).scanResult = s.scanResult := rfl
@[simp] theorem emitAll_flashArmed (s : State) (as : List Action) : (s.emitAll as).flashArmed = s.flashArmed := rfl
@[simp] theorem emitAll_flashCnt (s : State) (as : List Action) : (s.emitAll as).flashCnt = s.flashCnt := rfl
@[simp] theorem emitAll_intensity (s : State) (as : List Action) : (s.emitAll as).intensity = s.intensity := rfl
@[simp] theorem emitAll_ind (s : State) (as : List Action) : (s.emitAll as).ind = s.ind := rfl
@[simp] theorem emitAll_actCnt (s : State) (as : List Action) : (s.emitAll as).actCnt = s.actCnt := rfl
@[simp] theorem emitAll_booted (s : State) (as : List Action) : (s.emitAll as).booted = s.booted := rfl
@[simp] theorem emitAll_mode (s : State) (as : List Action) : (s.emitAll as).mode = s.mode := rfl
@[simp] theorem emitAll_patch (s : State) (as : List Action) : (s.emitAll as).patch = s.patch := rfl
@[simp] theorem emitAll_work (s : State) (as : List Action) : (s.emitAll as).work = s.work := rfl
@[simp] theorem emitAll_channel (s : State) (as : List Action) : (s.emitAll as).channel = s.channel := rfl
@[simp] theorem emitAll_range (s : State) (as : List Action) : (s.emitAll as).range = s.range := rfl
@[simp] theorem emitAll_zeroBased (s : State) (as : List Action) : (s.emitAll as).zeroBased = s.zeroBased := rfl
@[simp] theorem emitAll_cfgErr (s : State) (as : List Action) : (s.emitAll as).cfgErr = s.cfgErr := rfl
@[simp] theorem emitAll_nv (s : State) (as : List Action) : (s.emitAll as).nv = s.nv := rfl
@[simp] theorem emitAll_cfg (s : State) (as : List Action) : (s.emitAll as).cfg = s.cfg := rfl
@[simp] theorem emitAll_held (s : State) (as : List Action) : (s.emitAll as).held = s.held := rfl
@[simp] theorem emitAll_script (s : State) (as : List Action) : (s.emitAll as).script = s.script := rfl
@[simp] theorem emitAll_outcomes (s : State) (as : List Action) : (s.emitAll as).outcomes = s.outcomes := rfl
@[simp] theorem emitAll_drawIndex (s : State) (as : List Action) : (s.emitAll as).drawIndex = s.drawIndex := rfl
@[simp] theorem emitAll_trace (s : State) (as : List Action) : (s.emitAll as).trace = s.trace ++ as.map .action := rfl

@[simp] theorem raise_ms (s : State) (e : ErrorKind) : (s.raise e).ms = s.ms := rfl
@[simp] theorem raise_delayCnt (s : State) (e : ErrorKind) : (s.raise e).delayCnt = s.delayCnt := rfl
@[simp] theorem raise_sw (s : State) (e : ErrorKind) : (s.raise e).sw = s.sw := rfl
@[simp] theorem raise_scanActive (s : State) (e : ErrorKind) : (s.raise e).scanActive = s.scanActive := rfl
@[simp] theorem raise_scanIdx (s : State) (e : ErrorKind) : (s.raise e).scanIdx = s.scanIdx := rfl
@[simp] theorem raise_scanDone (s : State) (e : ErrorKind) : (s.raise e).scanDone = s.scanDone := rfl
@[simp] theorem raise_scanStart (s : State) (e : ErrorKind) : (s.raise e).scanStart = s.scanStart := rfl
@[simp] theorem raise_scanTimeout (s : State) (e : ErrorKind) : (s.raise e).scanTimeout = s.scanTimeout := rfl
@[simp] theorem raise_scanAr (s : State) (e : ErrorKind) : (s.raise e).scanAr = s.scanAr := rfl
@[simp] theorem raise_periodAcc (s : State) (e : ErrorKind) : (s.raise e).periodAcc = s.periodAcc := rfl
@[simp] theorem raise_scanResult (s : State) (e : ErrorKind) : (s.raise e).scanResult = s.scanResult := rfl
@[simp] theorem raise_flashArmed (s : State) (e : ErrorKind) : (s.raise e).flashArmed = s.flashArmed := rfl
@[simp] theorem raise_flashCnt (s : State) (e : ErrorKind) : (s.raise e).flashCnt = s.flashCnt := rfl
@[simp] theorem raise_intensity (s : State) (e : ErrorKind) : (s.raise e).intensity = s.intensity := rfl
@[simp] theorem raise_ind (s : State) (e : ErrorKind) : (s.raise e).ind = s.ind := rfl
@[simp] theorem raise_actCnt (s : State) (e : ErrorKind) : (s.raise e).actCnt = s.actCnt := rfl
@[simp] theorem raise_booted (s : State) (e : ErrorKind) : (s.raise e).booted = s.booted := rfl
@[simp] theorem raise_mode (s : State) (e : ErrorKind) : (s.raise e).mode = s.mode := rfl
@[simp] theorem raise_patch (s : State) (e : ErrorKind) : (s.raise e).patch = s.patch := rfl
@[simp] theorem raise_work (s : State) (e : ErrorKind) : (s.raise e).work = s.work := rfl
@[simp] theorem raise_channel (s : State) (e : ErrorKind) : (s.raise e).channel = s.channel := rfl
@[simp] theorem raise_range (s : State) (e : ErrorKind) : (s.raise e).range = s.range := rfl
@[simp] theorem raise_zeroBased (s : State) (e : ErrorKind) : (s.raise e).zeroBased = s.zeroBased := rfl
@[simp] theorem raise_cfgErr (s : State) (e : ErrorKind) : (s.raise e).cfgErr = s.cfgErr := rfl
@[simp] theorem raise_nv (s : State) (e : ErrorKind) : (s.raise e).nv = s.nv := rfl
@[simp] theorem raise_cfg (s : State) (e : ErrorKind) : (s.raise e).cfg = s.cfg := rfl
@[simp] theorem raise_held (s : State) (e : ErrorKind) : (s.raise e).held = s.held := rfl
@[simp] theorem raise_script (s : State) (e : ErrorKind) : (s.raise e).script = s.script := rfl
@[simp] theorem raise_outcomes (s : State) (e : ErrorKind) : (s.raise e).outcomes = s.outcomes := rfl
@[simp] theorem raise_drawIndex (s : State) (e : ErrorKind) : (s.raise e).drawIndex = s.drawIndex := rfl
@[simp] theorem raise_trace (s : State) (e : ErrorKind) : (s.raise e).trace = s.trace ++ [.raised e] := rfl

@[simp] theorem memRead_ms (s : State) (o : NvOffset) : (s.memRead o).ms = s.ms := rfl
@[simp] theorem memRead_delayCnt (s : State) (o : NvOffset) : (s.memRead o).delayCnt = s.delayCnt := rfl
@[simp] theorem memRead_sw (s : State) (o : NvOffset) : (s.memRead o).sw = s.sw := rfl
@[simp] theorem memRead_scanActive (s : State) (o : NvOffset) : (s.memRead o).scanActive = s.scanActive := rfl
@[simp] theorem memRead_scanIdx (s : State) (o : NvOffset) : (s.memRead o).scanIdx = s.scanIdx := rfl
@[simp] theorem memRead_scanDone (s : State) (o : NvOffset) : (s.memRead o).scanDone = s.scanDone := rfl
@[simp] theorem memRead_scanStart (s : State) (o : NvOffset) : (s.memRead o).scanStart = s.scanStart := rfl
@[simp] theorem memRead_scanTimeout (s : State) (o : NvOffset) : (s.memRead o).scanTimeout = s.scanTimeout := rfl
@[simp] theorem memRead_scanAr (s : State) (o : NvOffset) : (s.memRead o).scanAr = s.scanAr := rfl
@[simp] theorem memRead_periodAcc (s : State) (o : NvOffset) : (s.memRead o).periodAcc = s.periodAcc := rfl
@[simp] theorem memRead_scanResult (s : State) (o : NvOffset) : (s.memRead o).scanResult = s.scanResult := rfl
@[simp] theorem memRead_flashArmed (s : State) (o : NvOffset) : (s.memRead o).flashArmed = s.flashArmed := rfl
@[simp] theorem memRead_flashCnt (s : State) (o : NvOffset) : (s.memRead o).flashCnt = s.flashCnt := rfl
@[simp] theorem memRead_intensity (s : State) (o : NvOffset) : (s.memRead o).intensity = s.intensity := rfl
@[simp] theorem memRead_ind (s : State) (o : NvOffset) : (s.memRead o).ind = s.ind := rfl
@[simp] theorem memRead_actCnt (s : State) (o : NvOffset) : (s.memRead o).actCnt = s.actCnt := rfl
@[simp] theorem memRead_booted (s : State) (o : NvOffset) : (s.memRead o).booted = s.booted := rfl
@[simp] theorem memRead_mode (s : State) (o : NvOffset) : (s.memRead o).mode = s.mode := rfl
@[simp] theorem memRead_patch (s : State) (o : NvOffset) : (s.memRead o).patch = s.patch := rfl
@[simp] theorem memRead_work (s : State) (o : NvOffset) : (s.memRead o).work = s.work := rfl
@[simp] theorem memRead_channel (s : State) (o : NvOffset) : (s.memRead o).channel = s.channel := rfl
@[simp] theorem memRead_range (s : State) (o : NvOffset) : (s.memRead o).range = s.range := rfl
@[simp] theorem memRead_zeroBased (s : State) (o : NvOffset) : (s.memRead o).zeroBased = s.zeroBased := rfl
@[simp] theorem memRead_cfgErr (s : State) (o : NvOffset) : (s.memRead o).cfgErr = s.cfgErr := rfl
@[simp] theorem memRead_nv (s : State) (o : NvOffset) : (s.memRead o).nv = s.nv := rfl
@[simp] theorem memRead_cfg (s : State) (o : NvOffset) : (s.memRead o).cfg = s.cfg := rfl
@[simp] theorem memRead_held (s : State) (o : NvOffset) : (s.memRead o).held = s.held := rfl
@[simp] theorem memRead_script (s : State) (o : NvOffset) : (s.memRead o).script = s.script := rfl
@[simp] theorem memRead_outcomes (s : State) (o : NvOffset) : (s.memRead o).outcomes = s.outcomes := rfl
@[simp] theorem memRead_drawIndex (s : State) (o : NvOffset) : (s.memRead o).drawIndex = s.drawIndex := rfl
@[simp] theorem memRead_trace (s : State) (o : NvOffset) :
    (s.memRead o).trace = s.trace ++ [.action (.storeRead o.addr)] := rfl

@[simp] theorem goto_ms (s : State) (m : Mode) : (s.goto m).ms = s.ms := rfl
@[simp] theorem goto_delayCnt (s : State) (m : Mode) : (s.goto m).delayCnt = s.delayCnt := rfl
@[simp] theorem goto_sw (s : State) (m : Mode) : (s.goto m).sw = s.sw := rfl
@[simp] theorem goto_scanActive (s : State) (m : Mode) : (s.goto m).scanActive = s.scanActive := rfl
@[simp] theorem goto_scanIdx (s : State) (m : Mode) : (s.goto m).scanIdx = s.scanIdx := rfl
@[simp] theorem goto_scanDone (s : State) (m : Mode) : (s.goto m).scanDone = s.scanDone := rfl
@[simp] theorem goto_scanStart (s : State) (m : Mode) : (s.goto m).scanStart = s.scanStart := rfl
@[simp] theorem goto_scanTimeout (s : State) (m : Mode) : (s.goto m).scanTimeout = s.scanTimeout := rfl
@[simp] theorem goto_scanAr (s : State) (m : Mode) : (s.goto m).scanAr = s.scanAr := rfl
@[simp] theorem goto_periodAcc (s : State) (m : Mode) : (s.goto m).periodAcc = s.periodAcc := rfl
@[simp] theorem goto_scanResult (s : State) (m : Mode) : (s.goto m).scanResult = s.scanResult := rfl
@[simp] theorem goto_flashArmed (s : State) (m : Mode) : (s.goto m).flashArmed = s.flashArmed := rfl
@[simp] theorem goto_flashCnt (s : State) (m : Mode) : (s.goto m).flashCnt = s.flashCnt := rfl
@[simp] theorem goto_intensity (s : State) (m : Mode) : (s.goto m).intensity = s.intensity := rfl
@[simp] theorem goto_ind (s : State) (m : Mode) : (s.goto m).ind = s.ind := rfl
@[simp] theorem goto_actCnt (s : State) (m : Mode) : (s.goto m).actCnt = s.actCnt := rfl
@[simp] theorem goto_booted (s : State) (m : Mode) : (s.goto m).booted = s.booted := rfl
@[simp] theorem goto_mode (s : State) (m : Mode) : (s.goto m).mode = m.code := rfl
@[simp] theorem goto_patch (s : State) (m : Mode) : (s.goto m).patch = s.patch := rfl
@[simp] theorem goto_work (s : State) (m : Mode) : (s.goto m).work = s.work := rfl
@[simp] theorem goto_channel (s : State) (m : Mode) : (s.goto m).channel = s.channel := rfl
@[simp] theorem goto_range (s : State) (m : Mode) : (s.goto m).range = s.range := rfl
@[simp] theorem goto_zeroBased (s : State) (m : Mode) : (s.goto m).zeroBased = s.zeroBased := rfl
@[simp] theorem goto_cfgErr (s : State) (m : Mode) : (s.goto m).cfgErr = s.cfgErr := rfl
@[simp] theorem goto_nv (s : State) (m : Mode) : (s.goto m).nv = s.nv := rfl
@[simp] theorem goto_cfg (s : State) (m : Mode) : (s.goto m).cfg = s.cfg := rfl
@[simp] theorem goto_held (s : State) (m : Mode) : (s.goto m).held = s.held := rfl
@[simp] theorem goto_script (s : State) (m : Mode) : (s.goto m).script = s.script := rfl
@[simp] theorem goto_outcomes (s : State) (m : Mode) : (s.goto m).outcomes = s.outcomes := rfl
@[simp] theorem goto_drawIndex (s : State) (m : Mode) : (s.goto m).drawIndex = s.drawIndex := rfl
@[simp] theorem goto_trace (s : State) (m : Mode) : (s.goto m).trace = s.trace := rfl

@[simp] theorem setSwitch_ms (s : State) (r : Role) (x : Switch) : (s.setSwitch r x).ms = s.ms := rfl
@[simp] theorem setSwitch_delayCnt (s : State) (r : Role) (x : Switch) :
    (s.setSwitch r x).delayCnt = s.delayCnt := rfl
@[simp] theorem setSwitch_sw (s : State) (r : Role) (x : Switch) : (s.setSwitch r x).sw = s.sw.set r x := rfl
@[simp] theorem setSwitch_scanActive (s : State) (r : Role) (x : Switch) :
    (s.setSwitch r x).scanActive = s.scanActive := rfl
@[simp] theorem setSwitch_scanIdx (s : State) (r : Role) (x : Switch) : (s.setSwitch r x).scanIdx = s.scanIdx := rfl
@[simp] theorem setSwitch_scanDone (s : State) (r : Role) (x : Switch) :
    (s.setSwitch r x).scanDone = s.scanDone := rfl
@[simp] theorem setSwitch_scanStart (s : State) (r : Role) (x : Switch) :
    (s.setSwitch r x).scanStart = s.scanStart := rfl
@[simp] theorem setSwitch_scanTimeout (s : State) (r : Role) (x : Switch) :
    (s.setSwitch r x).scanTimeout = s.scanTimeout := rfl
@[simp] theorem setSwitch_scanAr (s : State) (r : Role) (x : Switch) : (s.setSwitch r x).scanAr = s.scanAr := rfl
@[simp] theorem setSwitch_periodAcc (s : State) (r : Role) (x : Switch) :
    (s.setSwitch r x).periodAcc = s.periodAcc := rfl
@[simp] theorem setSwitch_scanResult (s : State) (r : Role) (x : Switch) :
    (s.setSwitch r x).scanResult = s.scanResult := rfl
@[simp] theorem setSwitch_flashArmed (s : State) (r : Role) (x : Switch) :
    (s.setSwitch r x).flashArmed = s.flashArmed := rfl
@[simp] theorem setSwitch_flashCnt (s : State) (r : Role) (x : Switch) :
    (s.setSwitch r x).flashCnt = s.flashCnt := rfl
@[simp] theorem setSwitch_intensity (s : State) (r : Role) (x : Switch) :
    (s.setSwitch r x).intensity = s.intensity := rfl
@[simp] theorem setSwitch_ind (s : State) (r : Role) (x : Switch) : (s.setSwitch r x).ind = s.ind := rfl
@[simp] theorem setSwitch_actCnt (s : State) (r : Role) (x : Switch) : (s.setSwitch r x).actCnt = s.actCnt := rfl
@[simp] theorem setSwitch_booted (s : State) (r : Role) (x : Switch) : (s.setSwitch r x).booted = s.booted := rfl
@[simp] theorem setSwitch_mode (s : State) (r : Role) (x : Switch) : (s.setSwitch r x).mode = s.mode := rfl
@[simp] theorem setSwitch_patch (s : State) (r : Role) (x : Switch) : (s.setSwitch r x).patch = s.patch := rfl
@[simp] theorem setSwitch_work (s : State) (r : Role) (x : Switch) : (s.setSwitch r x).work = s.work := rfl
@[simp] theorem setSwitch_channel (s : State) (r : Role) (x : Switch) : (s.setSwitch r x).channel = s.channel := rfl
@[simp] theorem setSwitch_range (s : State) (r : Role) (x : Switch) : (s.setSwitch r x).range = s.range := rfl
@[simp] theorem setSwitch_zeroBased (s : State) (r : Role) (x : Switch) :
    (s.setSwitch r x).zeroBased = s.zeroBased := rfl
@[simp] theorem setSwitch_cfgErr (s : State) (r : Role) (x : Switch) : (s.setSwitch r x).cfgErr = s.cfgErr := rfl
@[simp] theorem setSwitch_nv (s : State) (r : Role) (x : Switch) : (s.setSwitch r x).nv = s.nv := rfl
@[simp] theorem setSwitch_cfg (s : State) (r : Role) (x : Switch) : (s.setSwitch r x).cfg = s.cfg := rfl
@[simp] theorem setSwitch_held (s : State) (r : Role) (x : Switch) : (s.setSwitch r x).held = s.held := rfl
@[simp] theorem setSwitch_script (s : State) (r : Role) (x : Switch) : (s.setSwitch r x).script = s.script := rfl
@[simp] theorem setSwitch_outcomes (s : State) (r : Role) (x : Switch) :
    (s.setSwitch r x).outcomes = s.outcomes := rfl
@[simp] theorem setSwitch_drawIndex (s : State) (r : Role) (x : Switch) :
    (s.setSwitch r x).drawIndex = s.drawIndex := rfl
@[simp] theorem setSwitch_trace (s : State) (r : Role) (x : Switch) : (s.setSwitch r x).trace = s.trace := rfl

@[simp] theorem advance_ms (s : State) : (advance s).ms = s.ms := rfl
@[simp] theorem advance_delayCnt (s : State) : (advance s).delayCnt = s.delayCnt := rfl
@[simp] theorem advance_sw (s : State) : (advance s).sw = s.sw := rfl
@[simp] theorem advance_scanActive (s : State) : (advance s).scanActive = s.scanActive := rfl
@[simp] theorem advance_scanIdx (s : State) : (advance s).scanIdx = s.scanIdx + 1 := rfl
@[simp] theorem advance_scanDone (s : State) : (advance s).scanDone = s.scanDone := rfl
@[simp] theorem advance_scanStart (s : State) : (advance s).scanStart = s.scanStart := rfl
@[simp] theorem advance_scanTimeout (s : State) : (advance s).scanTimeout = s.scanTimeout := rfl
@[simp] theorem advance_scanAr (s : State) : (advance s).scanAr = s.scanAr := rfl
@[simp] theorem advance_periodAcc (s : State) : (advance s).periodAcc = s.periodAcc := rfl
@[simp] theorem advance_scanResult (s : State) : (advance s).scanResult = s.scanResult := rfl
@[simp] theorem advance_flashArmed (s : State) : (advance s).flashArmed = s.flashArmed := rfl
@[simp] theorem advance_flashCnt (s : State) : (advance s).flashCnt = s.flashCnt := rfl
@[simp] theorem advance_intensity (s : State) : (advance s).intensity = s.intensity := rfl
@[simp] theorem advance_ind (s : State) : (advance s).ind = s.ind := rfl
@[simp] theorem advance_actCnt (s : State) : (advance s).actCnt = s.actCnt := rfl
@[simp] theorem advance_booted (s : State) : (advance s).booted = s.booted := rfl
@[simp] theorem advance_mode (s : State) : (advance s).mode = s.mode := rfl
@[simp] theorem advance_patch (s : State) : (advance s).patch = s.patch := rfl
@[simp] theorem advance_work (s : State) : (advance s).work = s.work := rfl
@[simp] theorem advance_channel (s : State) : (advance s).channel = s.channel := rfl
@[simp] theorem advance_range (s : State) : (advance s).range = s.range := rfl
@[simp] theorem advance_zeroBased (s : State) : (advance s).zeroBased = s.zeroBased := rfl
@[simp] theorem advance_cfgErr (s : State) : (advance s).cfgErr = s.cfgErr := rfl
@[simp] theorem advance_nv (s : State) : (advance s).nv = s.nv := rfl
@[simp] theorem advance_cfg (s : State) : (advance s).cfg = s.cfg := rfl
@[simp] theorem advance_held (s : State) : (advance s).held = s.held := rfl
@[simp] theorem advance_script (s : State) : (advance s).script = s.script := rfl
@[simp] theorem advance_outcomes (s : State) : (advance s).outcomes = s.outcomes := rfl
@[simp] theorem advance_drawIndex (s : State) : (advance s).drawIndex = s.drawIndex := rfl
@[simp] theorem advance_trace (s : State) : (advance s).trace = s.trace := rfl

@[simp] theorem qualify_ms (r : Role) (s : State) : (qualify r s).ms = s.ms := rfl
@[simp] theorem qualify_delayCnt (r : Role) (s : State) : (qualify r s).delayCnt = s.delayCnt := rfl
@[simp] theorem qualify_sw (r : Role) (s : State) : (qualify r s).sw = s.sw := rfl
@[simp] theorem qualify_scanActive (r : Role) (s : State) : (qualify r s).scanActive = false := rfl
@[simp] theorem qualify_scanIdx (r : Role) (s : State) : (qualify r s).scanIdx = s.scanIdx := rfl
@[simp] theorem qualify_scanDone (r : Role) (s : State) : (qualify r s).scanDone = true := rfl
@[simp] theorem qualify_scanStart (r : Role) (s : State) : (qualify r s).scanStart = s.scanStart := rfl
@[simp] theorem qualify_scanTimeout (r : Role) (s : State) : (qualify r s).scanTimeout = s.scanTimeout := rfl
@[simp] theorem qualify_scanAr (r : Role) (s : State) : (qualify r s).scanAr = s.scanAr := rfl
@[simp] theorem qualify_periodAcc (r : Role) (s : State) : (qualify r s).periodAcc = s.periodAcc := rfl
@[simp] theorem qualify_scanResult (r : Role) (s : State) : (qualify r s).scanResult = r.event := rfl
@[simp] theorem qualify_flashArmed (r : Role) (s : State) : (qualify r s).flashArmed = s.flashArmed := rfl
@[simp] theorem qualify_flashCnt (r : Role) (s : State) : (qualify r s).flashCnt = s.flashCnt := rfl
@[simp] theorem qualify_intensity (r : Role) (s : State) : (qualify r s).intensity = s.intensity := rfl
@[simp] theorem qualify_ind (r : Role) (s : State) : (qualify r s).ind = s.ind := rfl
@[simp] theorem qualify_actCnt (r : Role) (s : State) : (qualify r s).actCnt = s.actCnt := rfl
@[simp] theorem qualify_booted (r : Role) (s : State) : (qualify r s).booted = s.booted := rfl
@[simp] theorem qualify_mode (r : Role) (s : State) : (qualify r s).mode = s.mode := rfl
@[simp] theorem qualify_patch (r : Role) (s : State) : (qualify r s).patch = s.patch := rfl
@[simp] theorem qualify_work (r : Role) (s : State) : (qualify r s).work = s.work := rfl
@[simp] theorem qualify_channel (r : Role) (s : State) : (qualify r s).channel = s.channel := rfl
@[simp] theorem qualify_range (r : Role) (s : State) : (qualify r s).range = s.range := rfl
@[simp] theorem qualify_zeroBased (r : Role) (s : State) : (qualify r s).zeroBased = s.zeroBased := rfl
@[simp] theorem qualify_cfgErr (r : Role) (s : State) : (qualify r s).cfgErr = s.cfgErr := rfl
@[simp] theorem qualify_nv (r : Role) (s : State) : (qualify r s).nv = s.nv := rfl
@[simp] theorem qualify_cfg (r : Role) (s : State) : (qualify r s).cfg = s.cfg := rfl
@[simp] theorem qualify_held (r : Role) (s : State) : (qualify r s).held = s.held := rfl
@[simp] theorem qualify_script (r : Role) (s : State) : (qualify r s).script = s.script := rfl
@[simp] theorem qualify_outcomes (r : Role) (s : State) : (qualify r s).outcomes = s.outcomes := rfl
@[simp] theorem qualify_drawIndex (r : Role) (s : State) : (qualify r s).drawIndex = s.drawIndex := rfl
@[simp] theorem qualify_trace (r : Role) (s : State) : (qualify r s).trace = s.trace := rfl

@[simp] theorem startFlash_ms (s : State) : (startFlash s).ms = s.ms := rfl
@[simp] theorem startFlash_delayCnt (s : State) : (startFlash s).delayCnt = s.delayCnt := rfl
@[simp] theorem startFlash_sw (s : State) : (startFlash s).sw = s.sw := rfl
@[simp] theorem startFlash_scanActive (s : State) : (startFlash s).scanActive = s.scanActive := rfl
@[simp] theorem startFlash_scanIdx (s : State) : (startFlash s).scanIdx = s.scanIdx := rfl
@[simp] theorem startFlash_scanDone (s : State) : (startFlash s).scanDone = s.scanDone := rfl
@[simp] theorem startFlash_scanStart (s : State) : (startFlash s).scanStart = s.scanStart := rfl
@[simp] theorem startFlash_scanTimeout (s : State) : (startFlash s).scanTimeout = s.scanTimeout := rfl
@[simp] theorem startFlash_scanAr (s : State) : (startFlash s).scanAr = s.scanAr := rfl
@[simp] theorem startFlash_periodAcc (s : State) : (startFlash s).periodAcc = s.periodAcc := rfl
@[simp] theorem startFlash_scanResult (s : State) : (startFlash s).scanResult = s.scanResult := rfl
@[simp] theorem startFlash_flashArmed (s : State) : (startFlash s).flashArmed = true := rfl
@[simp] theorem startFlash_flashCnt (s : State) : (startFlash s).flashCnt = s.cfg.flashToggleMs := rfl
@[simp] theorem startFlash_intensity (s : State) : (startFlash s).intensity = s.cfg.intMax := rfl
@[simp] theorem startFlash_ind (s : State) : (startFlash s).ind = false := rfl
@[simp] theorem startFlash_actCnt (s : State) : (startFlash s).actCnt = 0 := rfl
@[simp] theorem startFlash_booted (s : State) : (startFlash s).booted = s.booted := rfl
@[simp] theorem startFlash_mode (s : State) : (startFlash s).mode = s.mode := rfl
@[simp] theorem startFlash_patch (s : State) : (startFlash s).patch = s.patch := rfl
@[simp] theorem startFlash_work (s : State) : (startFlash s).work = s.work := rfl
@[simp] theorem startFlash_channel (s : State) : (startFlash s).channel = s.channel := rfl
@[simp] theorem startFlash_range (s : State) : (startFlash s).range = s.range := rfl
@[simp] theorem startFlash_zeroBased (s : State) : (startFlash s).zeroBased = s.zeroBased := rfl
@[simp] theorem startFlash_cfgErr (s : State) : (startFlash s).cfgErr = s.cfgErr := rfl
@[simp] theorem startFlash_nv (s : State) : (startFlash s).nv = s.nv := rfl
@[simp] theorem startFlash_cfg (s : State) : (startFlash s).cfg = s.cfg := rfl
@[simp] theorem startFlash_held (s : State) : (startFlash s).held = s.held := rfl
@[simp] theorem startFlash_script (s : State) : (startFlash s).script = s.script := rfl
@[simp] theorem startFlash_outcomes (s : State) : (startFlash s).outcomes = s.outcomes := rfl
@[simp] theorem startFlash_drawIndex (s : State) : (startFlash s).drawIndex = s.drawIndex := rfl
@[simp] theorem startFlash_trace (s : State) : (startFlash s).trace = s.trace := rfl

@[simp] theorem disarmFlash_ms (s : State) : (disarmFlash s).ms = s.ms := rfl
@[simp] theorem disarmFlash_delayCnt (s : State) : (disarmFlash s).delayCnt = s.delayCnt := rfl
@[simp] theorem disarmFlash_sw (s : State) : (disarmFlash s).sw = s.sw := rfl
@[simp] theorem disarmFlash_scanActive (s : State) : (disarmFlash s).scanActive = s.scanActive := rfl
@[simp] theorem disarmFlash_scanIdx (s : State) : (disarmFlash s).scanIdx = s.scanIdx := rfl
@[simp] theorem disarmFlash_scanDone (s : State) : (disarmFlash s).scanDone = s.scanDone := rfl
@[simp] theorem disarmFlash_scanStart (s : State) : (disarmFlash s).scanStart = s.scanStart := rfl
@[simp] theorem disarmFlash_scanTimeout (s : State) : (disarmFlash s).scanTimeout = s.scanTimeout := rfl
@[simp] theorem disarmFlash_scanAr (s : State) : (disarmFlash s).scanAr = s.scanAr := rfl
@[simp] theorem disarmFlash_periodAcc (s : State) : (disarmFlash s).periodAcc = s.periodAcc := rfl
@[simp] theorem disarmFlash_scanResult (s : State) : (disarmFlash s).scanResult = s.scanResult := rfl
@[simp] theorem disarmFlash_flashArmed (s : State) : (disarmFlash s).flashArmed = false := rfl
@[simp] theorem disarmFlash_flashCnt (s : State) : (disarmFlash s).flashCnt = s.flashCnt := rfl
@[simp] theorem disarmFlash_intensity (s : State) : (disarmFlash s).intensity = s.cfg.intMax := rfl
@[simp] theorem disarmFlash_ind (s : State) : (disarmFlash s).ind = false := rfl
@[simp] theorem disarmFlash_actCnt (s : State) : (disarmFlash s).actCnt = s.actCnt := rfl
@[simp] theorem disarmFlash_booted (s : State) : (disarmFlash s).booted = s.booted := rfl
@[simp] theorem disarmFlash_mode (s : State) : (disarmFlash s).mode = s.mode := rfl
@[simp] theorem disarmFlash_patch (s : State) : (disarmFlash s).patch = s.patch := rfl
@[simp] theorem disarmFlash_work (s : State) : (disarmFlash s).work = s.work := rfl
@[simp] theorem disarmFlash_channel (s : State) : (disarmFlash s).channel = s.channel := rfl
@[simp] theorem disarmFlash_range (s : State) : (disarmFlash s).range = s.range := rfl
@[simp] theorem disarmFlash_zeroBased (s : State) : (disarmFlash s).zeroBased = s.zeroBased := rfl
@[simp] theorem disarmFlash_cfgErr (s : State) : (disarmFlash s).cfgErr = s.cfgErr := rfl
@[simp] theorem disarmFlash_nv (s : State) : (disarmFlash s).nv = s.nv := rfl
@[simp] theorem disarmFlash_cfg (s : State) : (disarmFlash s).cfg = s.cfg := rfl
@[simp] theorem disarmFlash_held (s : State) : (disarmFlash s).held = s.held := rfl
@[simp] theorem disarmFlash_script (s : State) : (disarmFlash s).script = s.script := rfl
@[simp] theorem disarmFlash_outcomes (s : State) : (disarmFlash s).outcomes = s.outcomes := rfl
@[simp] theorem disarmFlash_drawIndex (s : State) : (disarmFlash s).drawIndex = s.drawIndex := rfl
@[simp] theorem disarmFlash_trace (s : State) : (disarmFlash s).trace = s.trace := rfl

@[simp] theorem stopFlash_ms (s : State) : (stopFlash s).ms = s.ms := rfl
@[simp] theorem stopFlash_delayCnt (s : State) : (stopFlash s).delayCnt = s.delayCnt := rfl
@[simp] theorem stopFlash_sw (s : State) : (stopFlash s).sw = s.sw := rfl
@[simp] theorem stopFlash_scanActive (s : State) : (stopFlash s).scanActive = s.scanActive := rfl
@[simp] theorem stopFlash_scanIdx (s : State) : (stopFlash s).scanIdx = s.scanIdx := rfl
@[simp] theorem stopFlash_scanDone (s : State) : (stopFlash s).scanDone = s.scanDone := rfl
@[simp] theorem stopFlash_scanStart (s : State) : (stopFlash s).scanStart = s.scanStart := rfl
@[simp] theorem stopFlash_scanTimeout (s : State) : (stopFlash s).scanTimeout = s.scanTimeout := rfl
@[simp] theorem stopFlash_scanAr (s : State) : (stopFlash s).scanAr = s.scanAr := rfl
@[simp] theorem stopFlash_periodAcc (s : State) : (stopFlash s).periodAcc = s.periodAcc := rfl
@[simp] theorem stopFlash_scanResult (s : State) : (stopFlash s).scanResult = s.scanResult := rfl
@[simp] theorem stopFlash_flashArmed (s : State) : (stopFlash s).flashArmed = false := rfl
@[simp] theorem stopFlash_flashCnt (s : State) : (stopFlash s).flashCnt = s.flashCnt := rfl
@[simp] theorem stopFlash_intensity (s : State) : (stopFlash s).intensity = s.cfg.intMax := rfl
@[simp] theorem stopFlash_ind (s : State) : (stopFlash s).ind = false := rfl
@[simp] theorem stopFlash_actCnt (s : State) : (stopFlash s).actCnt = s.actCnt := rfl
@[simp] theorem stopFlash_booted (s : State) : (stopFlash s).booted = s.booted := rfl
@[simp] theorem stopFlash_mode (s : State) : (stopFlash s).mode = s.mode := rfl
@[simp] theorem stopFlash_patch (s : State) : (stopFlash s).patch = s.patch := rfl
@[simp] theorem stopFlash_work (s : State) : (stopFlash s).work = s.work := rfl
@[simp] theorem stopFlash_channel (s : State) : (stopFlash s).channel = s.channel := rfl
@[simp] theorem stopFlash_range (s : State) : (stopFlash s).range = s.range := rfl
@[simp] theorem stopFlash_zeroBased (s : State) : (stopFlash s).zeroBased = s.zeroBased := rfl
@[simp] theorem stopFlash_cfgErr (s : State) : (stopFlash s).cfgErr = s.cfgErr := rfl
@[simp] theorem stopFlash_nv (s : State) : (stopFlash s).nv = s.nv := rfl
@[simp] theorem stopFlash_cfg (s : State) : (stopFlash s).cfg = s.cfg := rfl
@[simp] theorem stopFlash_held (s : State) : (stopFlash s).held = s.held := rfl
@[simp] theorem stopFlash_script (s : State) : (stopFlash s).script = s.script := rfl
@[simp] theorem stopFlash_outcomes (s : State) : (stopFlash s).outcomes = s.outcomes := rfl
@[simp] theorem stopFlash_drawIndex (s : State) : (stopFlash s).drawIndex = s.drawIndex := rfl
@[simp] theorem stopFlash_trace (s : State) :
    (stopFlash s).trace = s.trace ++ [.action (.dispSetIntensity s.cfg.intMax)] := rfl

@[simp] theorem midiSend_ms (c : BitVec 4) (p : BitVec 14) (r : BitVec 3) (s : State) :
    (midiSend c p r s).ms = s.ms := rfl
@[simp] theorem midiSend_delayCnt (c : BitVec 4) (p : BitVec 14) (r : BitVec 3) (s : State) :
    (midiSend c p r s).delayCnt = s.delayCnt := rfl
@[simp] theorem midiSend_sw (c : BitVec 4) (p : BitVec 14) (r : BitVec 3) (s : State) :
    (midiSend c p r s).sw = s.sw := rfl
@[simp] theorem midiSend_scanActive (c : BitVec 4) (p : BitVec 14) (r : BitVec 3) (s : State) :
    (midiSend c p r s).scanActive = s.scanActive := rfl
@[simp] theorem midiSend_scanIdx (c : BitVec 4) (p : BitVec 14) (r : BitVec 3) (s : State) :
    (midiSend c p r s).scanIdx = s.scanIdx := rfl
@[simp] theorem midiSend_scanDone (c : BitVec 4) (p : BitVec 14) (r : BitVec 3) (s : State) :
    (midiSend c p r s).scanDone = s.scanDone := rfl
@[simp] theorem midiSend_scanStart (c : BitVec 4) (p : BitVec 14) (r : BitVec 3) (s : State) :
    (midiSend c p r s).scanStart = s.scanStart := rfl
@[simp] theorem midiSend_scanTimeout (c : BitVec 4) (p : BitVec 14) (r : BitVec 3) (s : State) :
    (midiSend c p r s).scanTimeout = s.scanTimeout := rfl
@[simp] theorem midiSend_scanAr (c : BitVec 4) (p : BitVec 14) (r : BitVec 3) (s : State) :
    (midiSend c p r s).scanAr = s.scanAr := rfl
@[simp] theorem midiSend_periodAcc (c : BitVec 4) (p : BitVec 14) (r : BitVec 3) (s : State) :
    (midiSend c p r s).periodAcc = s.periodAcc := rfl
@[simp] theorem midiSend_scanResult (c : BitVec 4) (p : BitVec 14) (r : BitVec 3) (s : State) :
    (midiSend c p r s).scanResult = s.scanResult := rfl
@[simp] theorem midiSend_flashArmed (c : BitVec 4) (p : BitVec 14) (r : BitVec 3) (s : State) :
    (midiSend c p r s).flashArmed = s.flashArmed := rfl
@[simp] theorem midiSend_flashCnt (c : BitVec 4) (p : BitVec 14) (r : BitVec 3) (s : State) :
    (midiSend c p r s).flashCnt = s.flashCnt := rfl
@[simp] theorem midiSend_intensity (c : BitVec 4) (p : BitVec 14) (r : BitVec 3) (s : State) :
    (midiSend c p r s).intensity = s.intensity := rfl
@[simp] theorem midiSend_ind (c : BitVec 4) (p : BitVec 14) (r : BitVec 3) (s : State) :
    (midiSend c p r s).ind = s.ind := rfl
@[simp] theorem midiSend_actCnt (c : BitVec 4) (p : BitVec 14) (r : BitVec 3) (s : State) :
    (midiSend c p r s).actCnt = s.actCnt := rfl
@[simp] theorem midiSend_booted (c : BitVec 4) (p : BitVec 14) (r : BitVec 3) (s : State) :
    (midiSend c p r s).booted = s.booted := rfl
@[simp] theorem midiSend_mode (c : BitVec 4) (p : BitVec 14) (r : BitVec 3) (s : State) :
    (midiSend c p r s).mode = s.mode := rfl
@[simp] theorem midiSend_patch (c : BitVec 4) (p : BitVec 14) (r : BitVec 3) (s : State) :
    (midiSend c p r s).patch = s.patch := rfl
@[simp] theorem midiSend_work (c : BitVec 4) (p : BitVec 14) (r : BitVec 3) (s : State) :
    (midiSend c p r s).work = s.work := rfl
@[simp] theorem midiSend_channel (c : BitVec 4) (p : BitVec 14) (r : BitVec 3) (s : State) :
    (midiSend c p r s).channel = s.channel := rfl
@[simp] theorem midiSend_range (c : BitVec 4) (p : BitVec 14) (r : BitVec 3) (s : State) :
    (midiSend c p r s).range = s.range := rfl
@[simp] theorem midiSend_zeroBased (c : BitVec 4) (p : BitVec 14) (r : BitVec 3) (s : State) :
    (midiSend c p r s).zeroBased = s.zeroBased := rfl
@[simp] theorem midiSend_cfgErr (c : BitVec 4) (p : BitVec 14) (r : BitVec 3) (s : State) :
    (midiSend c p r s).cfgErr = s.cfgErr := rfl
@[simp] theorem midiSend_nv (c : BitVec 4) (p : BitVec 14) (r : BitVec 3) (s : State) :
    (midiSend c p r s).nv = s.nv := rfl
@[simp] theorem midiSend_cfg (c : BitVec 4) (p : BitVec 14) (r : BitVec 3) (s : State) :
    (midiSend c p r s).cfg = s.cfg := rfl
@[simp] theorem midiSend_held (c : BitVec 4) (p : BitVec 14) (r : BitVec 3) (s : State) :
    (midiSend c p r s).held = s.held := rfl
@[simp] theorem midiSend_script (c : BitVec 4) (p : BitVec 14) (r : BitVec 3) (s : State) :
    (midiSend c p r s).script = s.script := rfl
@[simp] theorem midiSend_outcomes (c : BitVec 4) (p : BitVec 14) (r : BitVec 3) (s : State) :
    (midiSend c p r s).outcomes = s.outcomes := rfl
@[simp] theorem midiSend_drawIndex (c : BitVec 4) (p : BitVec 14) (r : BitVec 3) (s : State) :
    (midiSend c p r s).drawIndex = s.drawIndex := rfl
@[simp] theorem midiSend_trace (c : BitVec 4) (p : BitVec 14) (r : BitVec 3) (s : State) :
    (midiSend c p r s).trace = s.trace ++ ((midiBytes s.cfg c p r).map .midiTx).map .action := rfl

end Sys2Proof.Machine
end

