-- ==== Sys2Proof/Laws/Ops.lean ====
section
/-!
SUPPORT. What the shared operations can do, said once: the byte write, the composite actions on the store, the fetch, and the dispatch
of EVENT, FSTEP and the routes.
-/
namespace Sys2Proof.Machine

open Sys2Proof

@[simp] theorem byteWritten_emit (s : State) (a : Action) (v : Byte) : (s.emit a).byteWritten v = s.byteWritten v := rfl
@[simp] theorem nvByte_emit (s : State) (a : Action) (o : NvOffset) : (s.emit a).nvByte o = s.nvByte o := rfl
@[simp] theorem nvByte_stopFlash (s : State) (o : NvOffset) : (stopFlash s).nvByte o = s.nvByte o := rfl
@[simp] theorem readConfig_trace (s : State) :
    (readConfig s).trace = s.trace ++ [.action (.storeRead 0), .action (.storeRead 1), .action (.storeRead 4)] := by
  simp [readConfig, NvOffset.addr]
@[simp] theorem readLast_trace (s : State) :
    (readLast s).trace = s.trace ++ [.action (.storeRead 2), .action (.storeRead 3)] := by
  simp [readLast, NvOffset.addr]

theorem readConfig_eq (s : State) :
    readConfig s = { s with
      trace := s.trace ++ [.action (.storeRead 0), .action (.storeRead 1), .action (.storeRead 4)] } := by
  rw [← readConfig_trace]; rfl

theorem readLast_eq (s : State) :
    readLast s = { s with trace := s.trace ++ [.action (.storeRead 2), .action (.storeRead 3)] } := by
  rw [← readLast_trace]; rfl

theorem dropOutcome_eq (s : State) :
    s.dropOutcome = { s with outcomes := s.dropOutcome.outcomes, drawIndex := s.dropOutcome.drawIndex } := by
  unfold State.dropOutcome; split <;> rfl

/-- A byte write, whole: the store, the draw and the trace change, and nothing else (20_memory.md R53). -/
theorem memWrite_eq (s : State) (o : NvOffset) (v : Byte) :
    s.memWrite o v = { s with
      nv := Memory.write s.nv o.addr (s.byteWritten v)
      outcomes := s.dropOutcome.outcomes
      drawIndex := s.dropOutcome.drawIndex
      trace := s.trace ++ .action (.storeWrite o.addr v)
        :: (if s.byteWritten v = v then [] else [.raised (.storageVerifyFailure o.addr)]) } := by
  have hp : s.program o v = { s with
      nv := Memory.write s.nv o.addr (s.byteWritten v)
      outcomes := s.dropOutcome.outcomes
      drawIndex := s.dropOutcome.drawIndex
      trace := s.trace ++ [.action (.storeWrite o.addr v)] } := by
    unfold State.program State.dropOutcome State.emit
    cases s.outcomes <;> rfl
  unfold State.memWrite
  split <;> simp [hp, State.raise]

theorem noteFailures_eq (s : State) (rs : List WriteResult) :
    s.noteFailures rs = { s with cfgErr := s.cfgErr || rs.contains .verifyFailure } := by
  unfold State.noteFailures
  split
  · next h => simp only [h, Bool.or_true]
  · next h => rw [Bool.not_eq_true] at h; simp only [h, Bool.or_false]

/-- What an action on the store does to a state: it changes the store, the draws, the sticky indicator and the trace only, keeps the
canonical form and the indicator, and emits no MIDI byte. -/
structure StoreEffect (s t : State) : Prop where
  frame : t = { s with
    nv := t.nv, outcomes := t.outcomes, drawIndex := t.drawIndex, cfgErr := t.cfgErr, trace := t.trace }
  wf : Memory.wf s.nv = true → Memory.wf t.nv = true
  sticky : s.cfgErr = true → t.cfgErr = true
  trace : ∃ out, t.trace = s.trace ++ out ∧ ∀ o ∈ out, o.isMidi = false

theorem StoreEffect.rfl' (s : State) : StoreEffect s s :=
  ⟨rfl, id, id, [], by simp, by simp⟩

theorem StoreEffect.trans {s t u : State} (h : StoreEffect s t) (k : StoreEffect t u) : StoreEffect s u := by
  refine ⟨?_, fun w => k.wf (h.wf w), fun w => k.sticky (h.sticky w), ?_⟩
  · have hk := k.frame
    rw [h.frame] at hk
    exact hk
  · obtain ⟨a, ha, hm⟩ := h.trace
    obtain ⟨b, hb, hn⟩ := k.trace
    refine ⟨a ++ b, by rw [hb, ha, List.append_assoc], fun o ho => ?_⟩
    rcases List.mem_append.mp ho with ho | ho
    · exact hm o ho
    · exact hn o ho

theorem storeEffect_emit (s : State) (a : Action) (h : (Output.action a).isMidi = false) : StoreEffect s (s.emit a) :=
  ⟨rfl, id, id, [.action a], rfl, by simpa using h⟩

theorem storeEffect_memWrite (s : State) (o : NvOffset) (v : Byte) : StoreEffect s (s.memWrite o v) := by
  rw [memWrite_eq]
  refine ⟨rfl, fun h => Memory.wf_write _ _ _ h o.addr_lt, id, _, rfl, fun x hx => ?_⟩
  rcases List.mem_cons.mp hx with rfl | hx
  · rfl
  · split at hx
    · simp at hx
    · rw [List.mem_singleton.mp hx]; rfl

theorem storeEffect_noteFailures (s : State) (rs : List WriteResult) : StoreEffect s (s.noteFailures rs) := by
  rw [noteFailures_eq]
  exact ⟨rfl, id, fun h => by simp [h], [], by simp, by simp⟩

theorem storeEffect_readConfig (s : State) : StoreEffect s (readConfig s) :=
  (storeEffect_emit s _ rfl).trans ((storeEffect_emit _ _ rfl).trans (storeEffect_emit _ _ rfl))

theorem storeEffect_readLast (s : State) : StoreEffect s (readLast s) :=
  (storeEffect_emit s _ rfl).trans (storeEffect_emit _ _ rfl)

/-- ConfigSave acts on the store only (45_collaborators.md R178). -/
theorem storeEffect_configSave (c : BitVec 4) (r : BitVec 3) (z : Bool) (s : State) :
    StoreEffect s (configSave c r z s) := by
  unfold configSave
  split
  · refine (storeEffect_readConfig s).trans ?_
    unfold writeConfig
    refine (storeEffect_emit _ .storeUnlock rfl).trans ?_
    refine (storeEffect_memWrite _ .channel (channelByte c)).trans ?_
    refine (storeEffect_memWrite _ .range (rangeByte r)).trans ?_
    refine (storeEffect_memWrite _ .zeroBased (byteOfFlag z)).trans ?_
    exact (storeEffect_emit _ .storeLock rfl).trans (storeEffect_noteFailures _ _)
  · exact storeEffect_readConfig s

/-- StoreLast acts on the store only (45_collaborators.md R180). -/
theorem storeEffect_storeLast (p : BitVec 14) (s : State) : StoreEffect s (storeLast p s) := by
  unfold storeLast
  split
  · refine (storeEffect_readLast s).trans ?_
    unfold writeLast
    refine (storeEffect_emit _ .storeUnlock rfl).trans ?_
    refine (storeEffect_memWrite _ .lastHi (patchHi p)).trans ?_
    refine (storeEffect_memWrite _ .lastLo (patchLo p)).trans ?_
    exact (storeEffect_emit _ .storeLock rfl).trans (storeEffect_noteFailures _ _)
  · exact storeEffect_readLast s

theorem startActivity_eq (s : State) :
    startActivity s = { s with
      ind := if s.cfg.extIndicator && !s.flashArmed then true else s.ind
      actCnt := if s.cfg.extIndicator && !s.flashArmed then s.cfg.activityMs else s.actCnt } := by
  unfold startActivity
  split <;> simp_all

/-- What a route that is performed leaves to ask: where a route by itself gives a next state (44_mode_fsm.md R134). -/
theorem whenSelected_next {m : Mode} {s after t : State} (h : whenSelected m s after = .next t) :
    s.booted = true ∧ s.scanActive = false ∧ s.mode = m.code ∧ s.range.toNat < Config.nRanges ∧ t = after := by
  unfold whenSelected at h
  split at h
  case isFalse => cases h
  case isTrue hs =>
    split at h
    case isFalse => cases h
    case isTrue hr =>
      cases h
      simp only [routeSelected, Bool.and_eq_true, Bool.not_eq_true', beq_iff_eq] at hs
      exact ⟨hs.1.1, hs.1.2, hs.2, by simpa [rangeLegal] using hr, rfl⟩

/-- The code of a mode decodes to it, and to it only (30_encoding.md R77). -/
theorem Mode.ofCode_eq_some {c : BitVec 3} {m : Mode} : Mode.ofCode c = some m ↔ c = m.code := by
  cases m <;> revert c <;> decide

/-- Where EVENT gives a next state, and which (44_mode_fsm.md R134). -/
theorem execEvent_next {ev : Event} {s t : State} (h : execEvent ev s = .next t) :
    ∃ m, s.booted = true ∧ s.scanActive = false ∧ s.mode = Mode.code m ∧ s.range.toNat < Config.nRanges ∧ t = deliver m ev s := by
  unfold execEvent at h
  split at h
  case isFalse => cases h
  case isTrue hs =>
    split at h
    case h_2 => cases h
    case h_1 m hm =>
      split at h
      case isFalse => cases h
      case isTrue hr =>
        cases h
        simp only [Bool.and_eq_true, Bool.not_eq_true'] at hs
        exact ⟨m, hs.1, hs.2, Mode.ofCode_eq_some.mp hm, by simpa [rangeLegal] using hr, rfl⟩

/-- Where EVAL gives a next state, and which (42_debounce.md R102). -/
theorem execEval_next {pins : Pins} {s t : State} (h : execEval pins s = .next t) :
    s.scanActive = true ∧ s.scanIdx ≠ 3 ∧ s.sw.legal = true
      ∧ t = evalSwitch (scanRole s.cfg.scanOrder s.scanIdx) s.ms pins s := by
  unfold execEval at h
  split at h
  case isFalse => cases h
  case isTrue hs =>
    split at h
    case isFalse => cases h
    case isTrue hl =>
      cases h
      simp only [Bool.and_eq_true, bne_iff_ne] at hs
      exact ⟨hs.1, hs.2, hl, rfl⟩

/-- Where PEND gives a next state, and which (42_debounce.md R110). -/
theorem execPend_next {s t : State} (h : execPend s = .next t) :
    s.scanActive = true ∧ s.scanIdx = 3 ∧ t = endIteration s := by
  unfold execPend at h
  split at h
  case isFalse => cases h
  case isTrue hs =>
    cases h
    simp only [Bool.and_eq_true, beq_iff_eq] at hs
    exact ⟨hs.1, hs.2, rfl⟩

/-- No record holds the reserved code, spelled out (30_encoding.md R78). -/
theorem SwitchFile.legal_iff (f : SwitchFile) : f.legal = true ↔ f.up.st ≠ 3 ∧ f.down.st ≠ 3 ∧ f.mode.st ≠ 3 := by
  simp only [SwitchFile.legal, Switch.legal, Bool.and_eq_true, bne_iff_ne, and_assoc]

/-- Where SBEGIN gives a next state, and which (42_debounce.md R101). -/
theorem execSbegin_next {n : BitVec 16} {ar : Bool} {s t : State} (h : execSbegin n ar s = .next t) :
    s.scanActive = false ∧ t = beginScan n ar s := by
  unfold execSbegin at h
  split at h
  case isTrue => cases h
  case isFalse hs => cases h; exact ⟨by simpa using hs, rfl⟩

/-- Where BOOT gives a next state, and which (44_mode_fsm.md R131). -/
theorem execBoot_next {s t : State} (h : execBoot s = .next t) : s.booted = false ∧ t = bootUp s := by
  unfold execBoot at h
  split at h
  case isTrue => cases h
  case isFalse hs => cases h; exact ⟨by simpa using hs, rfl⟩

/-- FSTEP is one of five other operations (44_mode_fsm.md R132). -/
theorem execFstep_next {pins : Pins} {s t : State} (h : execFstep pins s = .next t) :
    execBoot s = .next t ∨ (s.scanDone = true ∧ execEvent s.scanResult s = .next t) ∨ execEval pins s = .next t ∨ execPend s = .next t
      ∨ ∃ m, s.mode = Mode.code m ∧ execSbegin (scanTimeoutOf s.cfg m) (scanArOf m) s = .next t := by
  unfold execFstep at h
  split at h
  · exact .inl h
  split at h
  · exact .inr (.inl ⟨‹_›, h⟩)
  split at h
  · exact .inr (.inr (.inl h))
  split at h
  · exact .inr (.inr (.inr (.inl h)))
  unfold beginModeScan at h
  split at h
  case h_2 => cases h
  case h_1 m hm => exact .inr (.inr (.inr (.inr ⟨m, Mode.ofCode_eq_some.mp hm, h⟩)))

/-- An evaluation that is due is performed, on the switch it is due for (42_debounce.md R102). -/
theorem EvalDue.exec_eq {r : Role} {s : State} (h : EvalDue r s) (pins : Pins) :
    execEval pins s = .next (evalSwitch r s.ms pins s) := by
  have hl := (SwitchFile.legal_iff _).mpr h.legal
  rcases h.position with ⟨hi, rfl⟩ | ⟨hi, rfl⟩ | ⟨hi, rfl⟩ <;> simp [execEval, h.active, hi, hl, scanRole]

/-- The cases of EVAL's dispatch, each with its whole condition (42_debounce.md R102). -/
theorem evalSwitch_cases (r : Role) (now : Nat) (pins : Pins) (s : State) :
    (combined s.cfg r pins = true ∧ evalSwitch r now pins s = evalCombined s)
      ∨ ((combined s.cfg r pins = false ∧ asserted s.cfg r pins = false) ∧ evalSwitch r now pins s = evalRelease r s)
      ∨ ((combined s.cfg r pins = false ∧ asserted s.cfg r pins = true ∧ (s.sw.get r).st = SwitchState.released.code)
        ∧ evalSwitch r now pins s = evalPress r now s)
      ∨ ((combined s.cfg r pins = false ∧ asserted s.cfg r pins = true ∧ (s.sw.get r).st = SwitchState.pressedUnconfirmed.code)
        ∧ evalSwitch r now pins s = evalConfirm r now s)
      ∨ ((combined s.cfg r pins = false ∧ asserted s.cfg r pins = true ∧ (s.sw.get r).st ≠ SwitchState.released.code
          ∧ (s.sw.get r).st ≠ SwitchState.pressedUnconfirmed.code ∧ repeats s.cfg s.scanAr r = true)
        ∧ evalSwitch r now pins s = evalRepeat r now s)
      ∨ ((combined s.cfg r pins = false ∧ asserted s.cfg r pins = true ∧ (s.sw.get r).st ≠ SwitchState.released.code
          ∧ (s.sw.get r).st ≠ SwitchState.pressedUnconfirmed.code ∧ repeats s.cfg s.scanAr r = false)
        ∧ evalSwitch r now pins s = evalHeld s) := by
  unfold evalSwitch
  cases hc : combined s.cfg r pins
  case true => exact .inl ⟨rfl, by simp⟩
  cases ha : asserted s.cfg r pins
  case false => exact .inr (.inl ⟨⟨rfl, rfl⟩, by simp⟩)
  by_cases h0 : (s.sw.get r).st = SwitchState.released.code
  · exact .inr (.inr (.inl ⟨⟨rfl, rfl, h0⟩, by simp [h0]⟩))
  by_cases h1 : (s.sw.get r).st = SwitchState.pressedUnconfirmed.code
  · exact .inr (.inr (.inr (.inl ⟨⟨rfl, rfl, h1⟩, by rw [if_neg (by decide), if_neg (by decide), if_neg h0, if_pos h1]⟩)))
  cases hr : repeats s.cfg s.scanAr r
  · exact .inr (.inr (.inr (.inr (.inr ⟨⟨rfl, rfl, h0, h1, rfl⟩, by
      rw [if_neg (by decide), if_neg (by decide), if_neg h0, if_neg h1, if_neg (by decide)]⟩))))
  · exact .inr (.inr (.inr (.inr (.inl ⟨⟨rfl, rfl, h0, h1, rfl⟩, by
      rw [if_neg (by decide), if_neg (by decide), if_neg h0, if_neg h1, if_pos rfl]⟩))))

/-- What an evaluation changes at most: the switch records, the accumulator and the scan's registers; it emits nothing
(42_debounce.md R102 to R109). -/
theorem evalSwitch_frame (r : Role) (now : Nat) (pins : Pins) (s : State) :
    evalSwitch r now pins s = { s with
      sw := (evalSwitch r now pins s).sw
      periodAcc := (evalSwitch r now pins s).periodAcc
      scanIdx := (evalSwitch r now pins s).scanIdx
      scanResult := (evalSwitch r now pins s).scanResult
      scanDone := (evalSwitch r now pins s).scanDone
      scanActive := (evalSwitch r now pins s).scanActive } := by
  rcases evalSwitch_cases r now pins s with ⟨_, h⟩ | ⟨_, h⟩ | ⟨_, h⟩ | ⟨_, h⟩ | ⟨_, h⟩ | ⟨_, h⟩ <;> rw [h]
  case inr.inr.inr.inl => unfold evalConfirm; split <;> rfl
  case inr.inr.inr.inr.inl => unfold evalRepeat; dsimp only; split <;> rfl
  all_goals rfl

/-- What a PEND changes at most (42_debounce.md R110). -/
theorem endIteration_frame (s : State) :
    endIteration s = { s with
      periodAcc := (endIteration s).periodAcc
      scanIdx := (endIteration s).scanIdx
      scanResult := (endIteration s).scanResult
      scanDone := (endIteration s).scanDone
      scanActive := (endIteration s).scanActive
      trace := (endIteration s).trace } := by
  unfold endIteration refreshIntensity
  split <;> split <;> rfl

/-- What the flash cadence changes at most (43_flash.md R123). -/
theorem tickFlash_frame (s : State) :
    tickFlash s = { s with
      flashCnt := (tickFlash s).flashCnt, intensity := (tickFlash s).intensity, ind := (tickFlash s).ind } := by
  unfold tickFlash toggleFlash
  split
  · split <;> rfl
  · rfl

/-- What the activity countdown changes at most (43_flash.md R125). -/
theorem tickActivity_frame (s : State) :
    tickActivity s = { s with ind := (tickActivity s).ind, actCnt := (tickActivity s).actCnt } := by
  unfold tickActivity
  split <;> rfl

@[simp] theorem tickFlash_cfg (s : State) : (tickFlash s).cfg = s.cfg := by rw [tickFlash_frame]
@[simp] theorem tickFlash_flashArmed (s : State) : (tickFlash s).flashArmed = s.flashArmed := by rw [tickFlash_frame]
@[simp] theorem tickFlash_actCnt (s : State) : (tickFlash s).actCnt = s.actCnt := by rw [tickFlash_frame]
@[simp] theorem tickActivity_flashCnt (s : State) : (tickActivity s).flashCnt = s.flashCnt := by rw [tickActivity_frame]
@[simp] theorem tickActivity_intensity (s : State) : (tickActivity s).intensity = s.intensity := by rw [tickActivity_frame]
@[simp] theorem tickActivity_flashArmed (s : State) : (tickActivity s).flashArmed = s.flashArmed := by rw [tickActivity_frame]

theorem tickFlash_flashCnt (s : State) :
    (tickFlash s).flashCnt =
      if s.flashArmed then (if s.flashCnt - 1 = 0 then s.cfg.flashToggleMs else s.flashCnt - 1) else s.flashCnt := by
  unfold tickFlash
  repeat' split
  all_goals rfl

theorem tickFlash_intensity (s : State) :
    (tickFlash s).intensity =
      if s.flashArmed ∧ s.flashCnt - 1 = 0 then toggledIntensity s.cfg s.intensity else s.intensity := by
  unfold tickFlash
  repeat' split
  all_goals first | rfl | (exfalso; simp_all)

theorem tickFlash_ind (s : State) :
    (tickFlash s).ind =
      if s.flashArmed ∧ s.flashCnt - 1 = 0 then indicatorAt s.cfg (toggledIntensity s.cfg s.intensity) s.ind else s.ind := by
  unfold tickFlash
  repeat' split
  all_goals first | rfl | (exfalso; simp_all)

theorem tickActivity_actCnt (s : State) :
    (tickActivity s).actCnt =
      if s.cfg.extIndicator = true ∧ s.flashArmed = false ∧ s.actCnt ≠ 0 then s.actCnt - 1 else s.actCnt := by
  unfold tickActivity
  repeat' split
  all_goals first | rfl | (exfalso; simp_all)

theorem tickActivity_ind (s : State) :
    (tickActivity s).ind =
      if s.cfg.extIndicator = true ∧ s.flashArmed = false ∧ s.actCnt = 1 then false else s.ind := by
  have h1 : (s.actCnt - 1 = 0) ↔ s.actCnt = 1 := by constructor <;> intro h <;> bv_omega
  unfold tickActivity
  split
  · rename_i h
    simp only [Bool.and_eq_true, Bool.not_eq_true', bne_iff_ne] at h
    simp only [h1, h.1.1, h.1.2, true_and]
  · rename_i h
    have h2 : ¬(s.cfg.extIndicator = true ∧ s.flashArmed = false ∧ s.actCnt = 1) := by
      rintro ⟨a, b, c⟩
      exact h (by rw [a, b, c]; decide)
    rw [if_neg h2]

/-- What a TICK changes at most: the registers shared between the agents (10_state.md R32). -/
theorem execTick_frame (s : State) :
    ∃ t, execTick s = .next t ∧ t = { s with
      ms := nextMs s.cfg.width s.ms
      delayCnt := if s.delayCnt ≠ 0 then s.delayCnt - 1 else s.delayCnt
      flashCnt := t.flashCnt
      intensity := t.intensity
      ind := t.ind
      actCnt := t.actCnt } := by
  refine ⟨_, rfl, ?_⟩
  rw [tickActivity_frame, tickFlash_frame]
  rfl

end Sys2Proof.Machine
end

