-- ==== Sys2Proof/Laws/Routes.lean ====
section
/-!
SUPPORT. What a route, BOOT and every instruction can change at most, said once: later proofs cite these and never unfold a route.
-/
namespace Sys2Proof.Machine

open Sys2Proof

/-- What a route does to a state at most: the FSM's registers, the configuration registers, the flash registers, the store, the draws
and the trace change; the canonical form and the sticky indicator are kept, and the trace is only added to (10_state.md R32). -/
structure RouteEffect (s t : State) : Prop where
  frame : t = { s with
    mode := t.mode, patch := t.patch, work := t.work, channel := t.channel, range := t.range, zeroBased := t.zeroBased,
    flashArmed := t.flashArmed, flashCnt := t.flashCnt, intensity := t.intensity, ind := t.ind, actCnt := t.actCnt,
    nv := t.nv, outcomes := t.outcomes, drawIndex := t.drawIndex,
    cfgErr := t.cfgErr, trace := t.trace }
  wf : Memory.wf s.nv = true → Memory.wf t.nv = true
  sticky : s.cfgErr = true → t.cfgErr = true
  trace : ∃ out, t.trace = s.trace ++ out

theorem RouteEffect.trans {s t u : State} (h : RouteEffect s t) (k : RouteEffect t u) : RouteEffect s u := by
  refine ⟨?_, fun w => k.wf (h.wf w), fun w => k.sticky (h.sticky w), ?_⟩
  · have hk := k.frame
    rw [h.frame] at hk
    exact hk
  · obtain ⟨a, ha⟩ := h.trace
    obtain ⟨b, hb⟩ := k.trace
    exact ⟨a ++ b, by rw [hb, ha, List.append_assoc]⟩

theorem StoreEffect.route {s t : State} (h : StoreEffect s t) : RouteEffect s t := by
  refine ⟨?_, h.wf, h.sticky, ?_⟩
  · have hk := h.frame
    rw [hk]
  · obtain ⟨a, ha, _⟩ := h.trace
    exact ⟨a, ha⟩

theorem routeEffect_silent {s t : State}
    (h : t = { s with
      mode := t.mode, patch := t.patch, work := t.work, channel := t.channel, range := t.range, zeroBased := t.zeroBased,
      flashArmed := t.flashArmed, flashCnt := t.flashCnt, intensity := t.intensity, ind := t.ind, actCnt := t.actCnt }) :
    RouteEffect s t := by
  have hn : t.nv = s.nv := by rw [h]
  have he : t.cfgErr = s.cfgErr := by rw [h]
  have ht : t.trace = s.trace := by rw [h]
  refine ⟨?_, fun w => by rw [hn]; exact w, fun w => by rw [he]; exact w, [], by simp [ht]⟩
  have ho : t.outcomes = s.outcomes := by rw [h]
  have hd : t.drawIndex = s.drawIndex := by rw [h]
  rw [hn, he, ht, ho, hd]
  exact h

theorem routeEffect_emit (s : State) (a : Action) : RouteEffect s (s.emit a) := ⟨rfl, id, id, _, rfl⟩
theorem routeEffect_emitAll (s : State) (as : List Action) : RouteEffect s (s.emitAll as) := ⟨rfl, id, id, _, rfl⟩
theorem routeEffect_startFlash (s : State) : RouteEffect s (startFlash s) := routeEffect_silent rfl
theorem routeEffect_goto (s : State) (m : Mode) : RouteEffect s (s.goto m) := routeEffect_silent rfl
theorem routeEffect_startActivity (s : State) : RouteEffect s (startActivity s) :=
  routeEffect_silent (by rw [startActivity_eq])
theorem routeEffect_stopFlash (s : State) : RouteEffect s (stopFlash s) := (routeEffect_silent rfl).trans (routeEffect_emit _ _)

/-- SendPatch as a route effect (44_mode_fsm.md R136). -/
theorem routeEffect_sendPatch (s : State) : RouteEffect s (sendPatch s) := by
  unfold sendPatch
  refine ((routeEffect_emitAll s _).trans (routeEffect_startActivity (midiSend s.channel s.patch s.range s))).trans ?_
  refine RouteEffect.trans ?_ (routeEffect_emit _ _)
  split
  · exact (storeEffect_storeLast _ _).route
  · exact (StoreEffect.rfl' _).route

/-- ConfigExit as a route effect (44_mode_fsm.md R137). -/
theorem routeEffect_configExit (s : State) : RouteEffect s (configExit s) := by
  unfold configExit
  refine (routeEffect_stopFlash s).trans (((storeEffect_configSave s.channel s.range s.zeroBased _).route).trans ?_)
  exact (routeEffect_goto _ _).trans (routeEffect_emit _ _)

/-- Every route, whatever the mode and the event (44_mode_fsm.md R138 to R157). -/
theorem routeEffect_performRoute (m : Mode) (ev : Event) (s : State) : RouteEffect s (performRoute m ev s) := by
  cases m <;> cases ev
  case startupConfig.none => exact (routeEffect_goto s _).trans (routeEffect_emit _ _)
  case startupConfig.up =>
    exact ((routeEffect_goto s _).trans (routeEffect_startFlash _)).trans (routeEffect_emit _ _)
  case startupConfig.down =>
    exact ((routeEffect_goto s _).trans (routeEffect_startFlash _)).trans (routeEffect_emit _ _)
  case startupConfig.mode =>
    exact ((routeEffect_goto s _).trans (routeEffect_startFlash _)).trans (routeEffect_emit _ _)
  case configChannel.none => exact routeEffect_configExit s
  case configChannel.up => exact ⟨rfl, id, id, _, rfl⟩
  case configChannel.down => exact ⟨rfl, id, id, _, rfl⟩
  case configChannel.mode => exact ⟨rfl, id, id, _, rfl⟩
  case configDisplay.none => exact routeEffect_configExit s
  case configDisplay.up => exact ⟨rfl, id, id, _, rfl⟩
  case configDisplay.down => exact ⟨rfl, id, id, _, rfl⟩
  case configDisplay.mode => exact routeEffect_configExit s
  case normal.none => exact (StoreEffect.rfl' s).route
  case normal.up => exact (routeEffect_silent rfl).trans (routeEffect_sendPatch _)
  case normal.down => exact (routeEffect_silent rfl).trans (routeEffect_sendPatch _)
  case normal.mode => exact routeEffect_silent rfl
  case mode2.none => exact (StoreEffect.rfl' s).route
  case mode2.up => exact ⟨rfl, id, id, _, rfl⟩
  case mode2.down => exact ⟨rfl, id, id, _, rfl⟩
  case mode2.mode =>
    exact ((routeEffect_silent rfl).trans (routeEffect_sendPatch _)).trans
      ((routeEffect_stopFlash _).trans (routeEffect_goto _ _))

/-- EVENT's effect in a mode: the result is consumed, then a route effect (44_mode_fsm.md R134). -/
theorem routeEffect_deliver (m : Mode) (ev : Event) (s : State) : RouteEffect { s with scanDone := false } (deliver m ev s) :=
  routeEffect_performRoute m ev _

/-- The reads of ConfigLoad change the trace only (45_collaborators.md R179). -/
theorem loadReads_eq (s : State) :
    loadReads s = { s with
      trace := s.trace ++ [.action (.storeRead 0), .action (.storeRead 1), .action (.storeRead 4)]
        ++ (if s.cfg.restoreLast then [.action (.storeRead 2), .action (.storeRead 3)] else []) } := by
  unfold loadReads
  split
  · rw [readLast_eq, readConfig_eq]
  · rw [readConfig_eq, List.append_nil]

/-- BOOT's effect, whole (44_mode_fsm.md R131). -/
theorem bootUp_eq (s : State) :
    bootUp s = { s with
      channel := loadedChannel s, range := loadedRange s, zeroBased := loadedZeroBased s, patch := loadedPatch s,
      work := loadedPatch s, mode := Mode.startupConfig.code, booted := true,
      trace := s.trace ++ [.action .dispInit] ++ [.action (.storeRead 0), .action (.storeRead 1), .action (.storeRead 4)]
        ++ (if s.cfg.restoreLast then [.action (.storeRead 2), .action (.storeRead 3)] else []) } := by
  unfold bootUp configLoad
  rw [loadReads_eq]
  rfl

/-- BOOT's effect as a route effect on the booted block (44_mode_fsm.md R131). -/
theorem routeEffect_bootUp (s : State) : RouteEffect { s with booted := true } (bootUp s) := by
  rw [bootUp_eq]
  exact ⟨rfl, id, id, _, by rw [List.append_assoc, List.append_assoc]⟩

/-- The constructor of a route performs that route where it is selected (30_encoding.md R79). -/
theorem exec_ofRoute (m : Mode) (ev : Event) (s : State) :
    exec (Instr.ofRoute m ev) s = whenSelected m s (performRoute m ev s) := by
  cases m <;> cases ev <;> rfl

/-- An instruction is one of the twelve operations or the constructor of a route (30_encoding.md R70). -/
theorem Instr.operation_or_route (i : Instr) : i.isOperation = true ∨ ∃ m ev, i = Instr.ofRoute m ev := by
  cases i
  case routeStartupConfigNone => exact .inr ⟨.startupConfig, .none, rfl⟩
  case routeStartupConfigUp => exact .inr ⟨.startupConfig, .up, rfl⟩
  case routeStartupConfigDown => exact .inr ⟨.startupConfig, .down, rfl⟩
  case routeStartupConfigMode => exact .inr ⟨.startupConfig, .mode, rfl⟩
  case routeConfigChannelNone => exact .inr ⟨.configChannel, .none, rfl⟩
  case routeConfigChannelUp => exact .inr ⟨.configChannel, .up, rfl⟩
  case routeConfigChannelDown => exact .inr ⟨.configChannel, .down, rfl⟩
  case routeConfigChannelMode => exact .inr ⟨.configChannel, .mode, rfl⟩
  case routeConfigDisplayNone => exact .inr ⟨.configDisplay, .none, rfl⟩
  case routeConfigDisplayUp => exact .inr ⟨.configDisplay, .up, rfl⟩
  case routeConfigDisplayDown => exact .inr ⟨.configDisplay, .down, rfl⟩
  case routeConfigDisplayMode => exact .inr ⟨.configDisplay, .mode, rfl⟩
  case routeNormalNone => exact .inr ⟨.normal, .none, rfl⟩
  case routeNormalUp => exact .inr ⟨.normal, .up, rfl⟩
  case routeNormalDown => exact .inr ⟨.normal, .down, rfl⟩
  case routeNormalMode => exact .inr ⟨.normal, .mode, rfl⟩
  case routeMode2None => exact .inr ⟨.mode2, .none, rfl⟩
  case routeMode2Up => exact .inr ⟨.mode2, .up, rfl⟩
  case routeMode2Down => exact .inr ⟨.mode2, .down, rfl⟩
  case routeMode2Mode => exact .inr ⟨.mode2, .mode, rfl⟩
  all_goals exact .inl rfl

/-- What an instruction does, FSTEP resolved into the operation it performs: the twelve cases every invariant is proved over. Each case
says which instructions come to it. -/
inductive Effect (i : Instr) (s : State) : State → Prop where
  | tick : i = .tick → Effect i s (tickActivity (tickFlash (tickTimeBase s)))
  | dload (n : BitVec 16) : i = .dload n → s.delayCnt = 0 → Effect i s { s with delayCnt := n }
  | dwait (b : Bool) : i = .dwait → Effect i s { s with held := b }
  | sbegin (len : BitVec 16) (ar : Bool) :
      (i = .sbegin len ar
        ∨ ∃ pins m, i = .fstep pins ∧ s.mode = Mode.code m ∧ len = scanTimeoutOf s.cfg m ∧ ar = scanArOf m) →
      s.scanActive = false → Effect i s (beginScan len ar s)
  | eval (pins : Pins) : (i = .eval pins ∨ i = .fstep pins) → s.scanActive = true → s.scanIdx ≠ 3 → s.sw.legal = true →
      Effect i s (evalSwitch (scanRole s.cfg.scanOrder s.scanIdx) s.ms pins s)
  | pend : (i = .pend ∨ ∃ pins, i = .fstep pins) → s.scanActive = true → s.scanIdx = 3 → Effect i s (endIteration s)
  | fstart : i = .fstart → Effect i s (startFlash s)
  | fstop : i = .fstop → Effect i s (stopFlash s)
  | act : i = .act → Effect i s (startActivity s)
  | boot : (i = .boot ∨ ∃ pins, i = .fstep pins) → s.booted = false → Effect i s (bootUp s)
  | event (m : Mode) (ev : Event) : (i = .event ev ∨ ∃ pins, i = .fstep pins ∧ s.scanDone = true ∧ ev = s.scanResult) →
      CanPerform m s →
      Effect i s (deliver m ev s)
  | route (m : Mode) (ev : Event) : i = Instr.ofRoute m ev → CanPerform m s → Effect i s (performRoute m ev s)

/-- Every next state of every instruction is one of these effects. -/
theorem exec_effect {i : Instr} {s t : State} (h : exec i s = .next t) : Effect i s t := by
  have hev : ∀ ev, (i = .event ev ∨ ∃ pins, i = .fstep pins ∧ s.scanDone = true ∧ ev = s.scanResult) → execEvent ev s = .next t →
      Effect i s t :=
    fun ev hi h => by
      obtain ⟨m, a, b, c, d, rfl⟩ := execEvent_next h
      exact .event m ev hi ⟨a, b, c, d⟩
  have hel : ∀ pins, (i = .eval pins ∨ i = .fstep pins) → execEval pins s = .next t → Effect i s t := fun pins hi h => by
    obtain ⟨a, b, c, rfl⟩ := execEval_next h
    exact .eval pins hi a b c
  have hp : (i = .pend ∨ ∃ pins, i = .fstep pins) → execPend s = .next t → Effect i s t := fun hi h => by
    obtain ⟨a, b, rfl⟩ := execPend_next h
    exact .pend hi a b
  have hb : (i = .boot ∨ ∃ pins, i = .fstep pins) → execBoot s = .next t → Effect i s t := fun hi h => by
    obtain ⟨a, rfl⟩ := execBoot_next h
    exact .boot hi a
  rcases Instr.operation_or_route i with hi | ⟨m, ev, rfl⟩
  case inr =>
    rw [exec_ofRoute] at h
    obtain ⟨a, b, c, d, rfl⟩ := whenSelected_next h
    exact .route m ev rfl ⟨a, b, c, d⟩
  cases i <;> first | (exact absurd hi (by decide)) | skip
  case tick => cases h; exact .tick rfl
  case dload n =>
    simp only [exec, execDload] at h
    split at h
    · cases h; exact .dload n rfl ‹_›
    · cases h
  case dwait =>
    simp only [exec, execDwait] at h
    split at h <;> cases h
    · exact .dwait false rfl
    · exact .dwait true rfl
  case sbegin n ar =>
    obtain ⟨a, rfl⟩ := execSbegin_next h
    exact .sbegin n ar (.inl rfl) a
  case eval pins => exact hel pins (.inl rfl) h
  case pend => exact hp (.inl rfl) h
  case fstart => cases h; exact .fstart rfl
  case fstop => cases h; exact .fstop rfl
  case act => cases h; exact .act rfl
  case boot => exact hb (.inl rfl) h
  case event ev => exact hev ev (.inl rfl) h
  case fstep pins =>
    rcases execFstep_next h with h | ⟨hd, h⟩ | h | h | ⟨m, hm, h⟩
    · exact hb (.inr ⟨pins, rfl⟩) h
    · exact hev _ (.inr ⟨pins, rfl, hd, rfl⟩) h
    · exact hel _ (.inr rfl) h
    · exact hp (.inr ⟨pins, rfl⟩) h
    · obtain ⟨a, rfl⟩ := execSbegin_next h
      exact .sbegin _ _ (.inr ⟨pins, m, rfl, hm, rfl, rfl⟩) a

end Sys2Proof.Machine
end

