-- ==== Sys2Proof/Laws/Collaborators.lean ====
section
/-!
SUPPORT. What a byte write, ConfigSave and StoreLast do to the store, the failure indicator and the trace, said once.
-/
namespace Sys2Proof.Machine

open Sys2Proof

/-- The byte a write leaves is read back at its offset (20_memory.md R53). -/
theorem read_memWrite_same (s : State) (o : NvOffset) (v : Byte) (h : Memory.wf s.nv = true) :
    Memory.read (s.memWrite o v).nv o.addr = s.byteWritten v := by
  rw [memWrite_eq]
  exact Memory.read_write_same _ _ _ h

/-- A write leaves every other offset (20_memory.md R53). -/
theorem read_memWrite_other (s : State) (o : NvOffset) (v : Byte) (off : Nat) (h : off ≠ o.addr) :
    Memory.read (s.memWrite o v).nv off = Memory.read s.nv off := by
  rw [memWrite_eq]
  exact Memory.read_write_other _ _ _ _ h

theorem memWrite_trace (s : State) (o : NvOffset) (v : Byte) :
    (s.memWrite o v).trace = s.trace ++ [.action (.storeWrite o.addr v)] ++ verifyOutput o.addr v (s.byteWritten v) := by
  rw [memWrite_eq]
  simp [verifyOutput]

@[simp] theorem memWrite_cfgErr (s : State) (o : NvOffset) (v : Byte) : (s.memWrite o v).cfgErr = s.cfgErr := by
  rw [memWrite_eq]

@[simp] theorem memWrite_emit_trace (s : State) (a : Action) (o : NvOffset) (v : Byte) :
    ((s.emit a).memWrite o v).nv = (s.memWrite o v).nv := by
  rw [memWrite_eq, memWrite_eq]
  rfl

theorem wf_memWrite (s : State) (o : NvOffset) (v : Byte) (h : Memory.wf s.nv = true) : Memory.wf (s.memWrite o v).nv = true :=
  (storeEffect_memWrite s o v).wf h

theorem writeResult_failed (s : State) (v : Byte) : (s.writeResult v == .verifyFailure) = (s.byteWritten v != v) := by
  unfold State.writeResult
  by_cases h : s.byteWritten v = v <;> simp [h]

/-- The batched write of the configuration: each byte that stands after it is what its own write left, the indicator joins the three
verifications, and the trace is the bracket around the three writes (45_collaborators.md R178). -/
theorem writeConfig_spec (c : BitVec 4) (r : BitVec 3) (z : Bool) (s : State) (h : Memory.wf s.nv = true) :
    (writeConfig c r z s).trace = s.trace ++ [.action .storeUnlock]
        ++ [.action (.storeWrite 0 (channelByte c))] ++ verifyOutput 0 (channelByte c) (Memory.read (writeConfig c r z s).nv 0)
        ++ [.action (.storeWrite 1 (rangeByte r))] ++ verifyOutput 1 (rangeByte r) (Memory.read (writeConfig c r z s).nv 1)
        ++ [.action (.storeWrite 4 (byteOfFlag z))] ++ verifyOutput 4 (byteOfFlag z) (Memory.read (writeConfig c r z s).nv 4)
        ++ [.action .storeLock]
      ∧ (∀ off, off ≠ 0 → off ≠ 1 → off ≠ 4 → Memory.read (writeConfig c r z s).nv off = Memory.read s.nv off)
      ∧ (writeConfig c r z s).cfgErr = (s.cfgErr || Memory.read (writeConfig c r z s).nv 0 != channelByte c
          || Memory.read (writeConfig c r z s).nv 1 != rangeByte r || Memory.read (writeConfig c r z s).nv 4 != byteOfFlag z) := by
  unfold writeConfig
  dsimp only
  rw [noteFailures_eq]
  generalize hs0 : s.emit .storeUnlock = s0
  have h0 : Memory.wf s0.nv = true := by rw [← hs0]; exact h
  generalize hs1 : s0.memWrite .channel (channelByte c) = s1
  have h1 : Memory.wf s1.nv = true := by rw [← hs1]; exact wf_memWrite _ _ _ h0
  generalize hs2 : s1.memWrite .range (rangeByte r) = s2
  have h2 : Memory.wf s2.nv = true := by rw [← hs2]; exact wf_memWrite _ _ _ h1
  generalize hs3 : s2.memWrite .zeroBased (byteOfFlag z) = s3
  have e4 : Memory.read s3.nv 4 = s2.byteWritten (byteOfFlag z) := by rw [← hs3]; exact read_memWrite_same _ _ _ h2
  have o3 : ∀ off, off ≠ 4 → Memory.read s3.nv off = Memory.read s2.nv off := fun off ho => by
    rw [← hs3]; exact read_memWrite_other _ _ _ _ ho
  have e1 : Memory.read s2.nv 1 = s1.byteWritten (rangeByte r) := by rw [← hs2]; exact read_memWrite_same _ _ _ h1
  have o2 : ∀ off, off ≠ 1 → Memory.read s2.nv off = Memory.read s1.nv off := fun off ho => by
    rw [← hs2]; exact read_memWrite_other _ _ _ _ ho
  have e0 : Memory.read s1.nv 0 = s0.byteWritten (channelByte c) := by rw [← hs1]; exact read_memWrite_same _ _ _ h0
  have o1 : ∀ off, off ≠ 0 → Memory.read s1.nv off = Memory.read s0.nv off := fun off ho => by
    rw [← hs1]; exact read_memWrite_other _ _ _ _ ho
  have t1 := memWrite_trace s0 .channel (channelByte c)
  have t2 := memWrite_trace s1 .range (rangeByte r)
  have t3 := memWrite_trace s2 .zeroBased (byteOfFlag z)
  rw [hs1] at t1
  rw [hs2] at t2
  rw [hs3] at t3
  have c1 : s3.cfgErr = s.cfgErr := by
    rw [← hs3, memWrite_cfgErr, ← hs2, memWrite_cfgErr, ← hs1, memWrite_cfgErr, ← hs0]; rfl
  have f0 : Memory.read s3.nv 0 = s0.byteWritten (channelByte c) := by rw [o3 0 (by decide), o2 0 (by decide), e0]
  have f1 : Memory.read s3.nv 1 = s1.byteWritten (rangeByte r) := by rw [o3 1 (by decide), e1]
  have n0 : s0.nv = s.nv := by rw [← hs0]; rfl
  have t0 : s0.trace = s.trace ++ [.action .storeUnlock] := by rw [← hs0]; rfl
  refine ⟨?_, ?_, ?_⟩
  · show s3.trace ++ [.action .storeLock] = s.trace ++ _ ++ _ ++ verifyOutput 0 _ (Memory.read s3.nv 0) ++ _
        ++ verifyOutput 1 _ (Memory.read s3.nv 1) ++ _ ++ verifyOutput 4 _ (Memory.read s3.nv 4) ++ _
    rw [t3, t2, t1, t0, f0, f1, e4]
    rfl
  · intro off a b d
    show Memory.read s3.nv off = _
    rw [o3 off d, o2 off b, o1 off a, n0]
  · show (s3.cfgErr || List.contains _ _) = (s.cfgErr || Memory.read s3.nv 0 != _ || Memory.read s3.nv 1 != _
        || Memory.read s3.nv 4 != _)
    rw [c1, f0, f1, e4, ← writeResult_failed, ← writeResult_failed, ← writeResult_failed]
    cases s.cfgErr <;> cases s0.writeResult (channelByte c) <;> cases s1.writeResult (rangeByte r)
      <;> cases s2.writeResult (byteOfFlag z) <;> rfl

/-- The write of the last patch, in the same terms (45_collaborators.md R180). -/
theorem writeLast_spec (p : BitVec 14) (s : State) (h : Memory.wf s.nv = true) :
    (writeLast p s).trace = s.trace ++ [.action .storeUnlock]
        ++ [.action (.storeWrite 2 (patchHi p))] ++ verifyOutput 2 (patchHi p) (Memory.read (writeLast p s).nv 2)
        ++ [.action (.storeWrite 3 (patchLo p))] ++ verifyOutput 3 (patchLo p) (Memory.read (writeLast p s).nv 3)
        ++ [.action .storeLock]
      ∧ (∀ off, off ≠ 2 → off ≠ 3 → Memory.read (writeLast p s).nv off = Memory.read s.nv off)
      ∧ (writeLast p s).cfgErr = (s.cfgErr || Memory.read (writeLast p s).nv 2 != patchHi p
          || Memory.read (writeLast p s).nv 3 != patchLo p) := by
  unfold writeLast
  dsimp only
  rw [noteFailures_eq]
  generalize hs0 : s.emit .storeUnlock = s0
  have h0 : Memory.wf s0.nv = true := by rw [← hs0]; exact h
  generalize hs1 : s0.memWrite .lastHi (patchHi p) = s1
  have h1 : Memory.wf s1.nv = true := by rw [← hs1]; exact wf_memWrite _ _ _ h0
  generalize hs2 : s1.memWrite .lastLo (patchLo p) = s2
  have e3 : Memory.read s2.nv 3 = s1.byteWritten (patchLo p) := by rw [← hs2]; exact read_memWrite_same _ _ _ h1
  have o2 : ∀ off, off ≠ 3 → Memory.read s2.nv off = Memory.read s1.nv off := fun off ho => by
    rw [← hs2]; exact read_memWrite_other _ _ _ _ ho
  have e2 : Memory.read s1.nv 2 = s0.byteWritten (patchHi p) := by rw [← hs1]; exact read_memWrite_same _ _ _ h0
  have o1 : ∀ off, off ≠ 2 → Memory.read s1.nv off = Memory.read s0.nv off := fun off ho => by
    rw [← hs1]; exact read_memWrite_other _ _ _ _ ho
  have t1 := memWrite_trace s0 .lastHi (patchHi p)
  have t2 := memWrite_trace s1 .lastLo (patchLo p)
  rw [hs1] at t1
  rw [hs2] at t2
  have c1 : s2.cfgErr = s.cfgErr := by rw [← hs2, memWrite_cfgErr, ← hs1, memWrite_cfgErr, ← hs0]; rfl
  have f2 : Memory.read s2.nv 2 = s0.byteWritten (patchHi p) := by rw [o2 2 (by decide), e2]
  have n0 : s0.nv = s.nv := by rw [← hs0]; rfl
  have t0 : s0.trace = s.trace ++ [.action .storeUnlock] := by rw [← hs0]; rfl
  refine ⟨?_, ?_, ?_⟩
  · show s2.trace ++ [.action .storeLock] = s.trace ++ _ ++ _ ++ verifyOutput 2 _ (Memory.read s2.nv 2) ++ _
        ++ verifyOutput 3 _ (Memory.read s2.nv 3) ++ _
    rw [t2, t1, t0, f2, e3]
    rfl
  · intro off a b
    show Memory.read s2.nv off = _
    rw [o2 off b, o1 off a, n0]
  · show (s2.cfgErr || List.contains _ _) = (s.cfgErr || Memory.read s2.nv 2 != _ || Memory.read s2.nv 3 != _)
    rw [c1, f2, e3, ← writeResult_failed, ← writeResult_failed]
    cases s.cfgErr <;> cases s0.writeResult (patchHi p) <;> cases s1.writeResult (patchLo p) <;> rfl

/-- Nothing differs exactly when the three stored bytes are the configuration (45_collaborators.md R178). -/
theorem configDiffers_eq_false (c : BitVec 4) (r : BitVec 3) (z : Bool) (s : State) :
    configDiffers c r z s = false ↔
      channelByte c = Memory.read s.nv 0 ∧ rangeByte r = Memory.read s.nv 1 ∧ byteOfFlag z = Memory.read s.nv 4 := by
  simp [configDiffers, State.nvByte, NvOffset.addr, and_assoc]

/-- ConfigSave, whole, with what it puts into the trace (45_collaborators.md R178). -/
theorem configSave_saved (c : BitVec 4) (r : BitVec 3) (z : Bool) (s : State) (h : Memory.wf s.nv = true) :
    ∃ out, ConfigSaved (channelByte c) (rangeByte r) (byteOfFlag z) s (configSave c r z s) out
      ∧ (configSave c r z s).trace = s.trace ++ out := by
  unfold ConfigSaved configSave
  cases hd : configDiffers c r z s
  · refine ⟨[.action (.storeRead 0), .action (.storeRead 1), .action (.storeRead 4)], ?_, ?_⟩
    rotate_left
    · simp only [Bool.false_eq_true, if_false]; exact readConfig_trace s
    · dsimp only; rw [if_pos ((configDiffers_eq_false _ _ _ _).mp hd)]
      refine ⟨rfl, fun _ => rfl, rfl, rfl, rfl⟩
  · have hn : ¬(channelByte c = Memory.read s.nv 0 ∧ rangeByte r = Memory.read s.nv 1
        ∧ byteOfFlag z = Memory.read s.nv 4) := by
      intro h; rw [(configDiffers_eq_false _ _ _ _).mpr h] at hd; cases hd
    have sp := writeConfig_spec c r z (readConfig s) h
    simp only [if_true]
    simp only [hn, if_false]
    refine ⟨_, ⟨rfl, sp.2.1, sp.2.2⟩, ?_⟩
    rw [sp.1, readConfig_trace]; simp only [List.append_assoc]

/-- The two bytes of a patch as numbers (20_memory.md R55). -/
theorem patchBytes_eq (p : BitVec 14) :
    BitVec.ofNat 8 (p.toNat / 256) = patchHi p ∧ BitVec.ofNat 8 (p.toNat % 256) = patchLo p := by
  constructor
  · apply BitVec.eq_of_toNat_eq; simp [patchHi, Nat.shiftRight_eq_div_pow]; omega
  · apply BitVec.eq_of_toNat_eq; simp [patchLo]

/-- The stored number is the patch (45_collaborators.md R180). -/
theorem storedLast_eq (s : State) (p : BitVec 14) :
    (storedLast s != p.setWidth 16) = false ↔
      (Memory.read s.nv 2).toNat * 256 + (Memory.read s.nv 3).toNat = p.toNat := by
  have hb : (storedLast s).toNat = (Memory.read s.nv 2).toNat * 256 + (Memory.read s.nv 3).toNat := by
    simp [storedLast, bigEndian, State.nvByte, NvOffset.addr]
    rw [BitVec.toNat_append, ← Nat.shiftLeft_add_eq_or_of_lt (by omega), Nat.shiftLeft_eq]
  rw [← hb]; simp [← BitVec.toNat_inj]
  have := p.isLt
  omega

/-- StoreLast where restore is built in, whole, with what it puts into the trace (45_collaborators.md R180). -/
theorem storeLast_stored (p : BitVec 14) (s : State) (h : Memory.wf s.nv = true) :
    ∃ out, LastStored p.toNat s (if s.cfg.restoreLast then storeLast p s else s) out
      ∧ (if s.cfg.restoreLast then storeLast p s else s).trace = s.trace ++ out := by
  unfold LastStored storeLast
  dsimp only
  cases hr : s.cfg.restoreLast
  · exact ⟨[], ⟨by simp [SameStore, NothingDrawn], by simp⟩⟩
  · simp only [Bool.true_eq_false, if_false, if_true]
    rw [(patchBytes_eq p).1, (patchBytes_eq p).2]
    cases hd : (storedLast s != p.setWidth 16)
    · refine ⟨[.action (.storeRead 2), .action (.storeRead 3)], ?_, ?_⟩
      rotate_left
      · simp only [Bool.false_eq_true, if_false]; exact readLast_trace s
      · rw [if_pos ((storedLast_eq _ _).mp hd)]
        exact ⟨rfl, fun _ => rfl, rfl, rfl, rfl⟩
    · have hn : ¬((Memory.read s.nv 2).toNat * 256 + (Memory.read s.nv 3).toNat = p.toNat) := by
        intro h; rw [(storedLast_eq _ _).mpr h] at hd; cases hd
      have sp := writeLast_spec p (readLast s) h
      simp only [if_true]
      simp only [hn, if_false]
      refine ⟨_, ⟨rfl, sp.2.1, sp.2.2⟩, ?_⟩
      rw [sp.1, readLast_trace]; simp only [List.append_assoc]

/-- MidiSend, whole (45_collaborators.md R171). -/
theorem midiSend_eq (s : State) :
    midiSend s.channel s.patch s.range s = { s with
      trace := s.trace ++ midiOutputs s.cfg s.channel.toNat s.patch.toNat s.range.toNat } := by
  have e1 : BitVec.ofNat 8 (176 + s.channel.toNat) = controlChangeStatus s.channel := by
    generalize s.channel = c; revert c; decide
  have e2 : BitVec.ofNat 8 (192 + s.channel.toNat) = programChangeStatus s.channel := by
    generalize s.channel = c; revert c; decide
  unfold midiSend State.emitAll midiBytes midiOutputs
  dsimp only
  rw [e1, e2]
  have : sendsBank s.cfg s.range = true ↔ (s.cfg.bankSwitch = true ∨ s.range.toNat ≠ 0) := by
    simp [sendsBank, ← BitVec.toNat_inj]
  cases h : sendsBank s.cfg s.range
  · have hn := mt this.mpr (by simp [h]); rw [if_neg hn]; rfl
  · rw [if_pos (this.mp h)]; rfl

/-- SendPatch, whole (44_mode_fsm.md R136). -/
theorem sendPatch_spec (s : State) (h : Memory.wf s.nv = true) :
    ∃ out, LastStored s.patch.toNat s (sendPatch s) out
      ∧ sendPatch s = { s with
          ind := if s.cfg.extIndicator && !s.flashArmed then true else s.ind,
          actCnt := if s.cfg.extIndicator && !s.flashArmed then s.cfg.activityMs else s.actCnt,
          nv := (sendPatch s).nv, cfgErr := (sendPatch s).cfgErr, outcomes := (sendPatch s).outcomes,
          drawIndex := (sendPatch s).drawIndex,
          trace := s.trace ++ midiOutputs s.cfg s.channel.toNat s.patch.toNat s.range.toNat ++ out
            ++ [.action (.dispShowPatch (shownNumber s.zeroBased s.patch.toNat))] } := by
  unfold sendPatch
  dsimp only
  rw [midiSend_eq, startActivity_eq]
  dsimp only
  set s1 : State := { s with ind := _, actCnt := _, trace := _ } with hs1
  obtain ⟨out, h1, h2⟩ := storeLast_stored s.patch s1 h
  have e : StoreEffect s1 (if s.cfg.restoreLast then storeLast s.patch s1 else s1) := by
    split
    · exact storeEffect_storeLast _ _
    · exact StoreEffect.rfl' _
  have h1' : LastStored s.patch.toNat s (if s.cfg.restoreLast then storeLast s.patch s1 else s1) out := h1
  have h2' : (if s.cfg.restoreLast then storeLast s.patch s1 else s1).trace = s1.trace ++ out := h2
  generalize (if s.cfg.restoreLast then storeLast s.patch s1 else s1) = u at *
  refine ⟨out, h1', ?_⟩
  have hf := e.frame
  show ({ u with trace := u.trace ++ _} : State) = _
  rw [h2', hf]
  simp only [hs1]
  rfl

end Sys2Proof.Machine
end

