-- ==== Sys2Proof/Laws/PerInstr.lean ====
section
/-!
SUPPORT. Statements about every instruction, one lemma per constructor.
-/
namespace Sys2Proof.Laws

open Sys2Proof

/-- The word an instruction is encoded as is named by the row of the opcode map with the instruction's mnemonic; a route's is the route
word of its own mode and event, `mode` below 5 (30_encoding.md R79, R80). -/
def EncodingRow.Statement (i : Instr) : Prop :=
  match encode i with
  | .op w => i.isOperation = true ∧ ∃ row ∈ opcodeTable, row.mnemonic = i.mnemonic ∧ row.names w = true
  | .route r => i.isOperation = false ∧ r.toNat < 20 ∧ ∃ m ev, i = Instr.ofRoute m ev ∧ r = routeWord m.code ev

/-- `n` in bits 15:0 is no bit of DLOAD's mask (30_encoding.md R72). -/
theorem dload_masked (n : BitVec 16) : (0x02#8 ++ 0#8 ++ n) &&& 0xFFFF0000#32 = 0x02000000#32 := by
  apply BitVec.eq_of_getLsbD_eq
  intro i hi
  simp only [BitVec.getLsbD_and, BitVec.getLsbD_append]
  by_cases h : i < 16
  · have : ∀ j < 16, (0xFFFF0000#32).getLsbD j = false ∧ (0x02000000#32).getLsbD j = false := by decide
    rw [(this i h).1, (this i h).2, Bool.and_false]
  · simp only [h, if_false]
    interval_cases i <;> rfl

/-- `ar` and `to` in bits 16:0 are no bits of SBEGIN's mask (30_encoding.md R72). -/
theorem sbegin_masked (n : BitVec 16) (ar : Bool) :
    (0x10#8 ++ 0#7 ++ BitVec.ofBool ar ++ n) &&& 0xFFFE0000#32 = 0x10000000#32 := by
  apply BitVec.eq_of_getLsbD_eq
  intro i hi
  simp only [BitVec.getLsbD_and, BitVec.getLsbD_append]
  by_cases h : i < 16
  · have : ∀ j < 16, (0xFFFE0000#32).getLsbD j = false ∧ (0x10000000#32).getLsbD j = false := by decide
    rw [(this i h).1, (this i h).2, Bool.and_false]
  · simp only [h, if_false]
    interval_cases i <;> cases ar <;> rfl

theorem EncodingRow.tick : EncodingRow.Statement .tick :=
  ⟨rfl, ⟨"TICK", 0x01000000, 0xFFFFFFFF⟩, by simp [opcodeTable], rfl, by decide⟩

theorem EncodingRow.dload (n : BitVec 16) : EncodingRow.Statement (.dload n) :=
  ⟨rfl, ⟨"DLOAD", 0x02000000, 0xFFFF0000⟩, by simp [opcodeTable], rfl, beq_iff_eq.mpr (dload_masked n)⟩

theorem EncodingRow.dwait : EncodingRow.Statement .dwait :=
  ⟨rfl, ⟨"DWAIT", 0x03000000, 0xFFFFFFFF⟩, by simp [opcodeTable], rfl, by decide⟩

theorem EncodingRow.sbegin (timeout : BitVec 16) (ar : Bool) : EncodingRow.Statement (.sbegin timeout ar) :=
  ⟨rfl, ⟨"SBEGIN", 0x10000000, 0xFFFE0000⟩, by simp [opcodeTable], rfl, beq_iff_eq.mpr (sbegin_masked timeout ar)⟩

theorem EncodingRow.eval (pins : Pins) : EncodingRow.Statement (.eval pins) :=
  ⟨rfl, ⟨"EVAL", 0x11000000, 0xFFFFFFF8⟩, by simp [opcodeTable], rfl, by revert pins; decide⟩

theorem EncodingRow.pend : EncodingRow.Statement .pend :=
  ⟨rfl, ⟨"PEND", 0x12000000, 0xFFFFFFFF⟩, by simp [opcodeTable], rfl, by decide⟩

theorem EncodingRow.fstart : EncodingRow.Statement .fstart :=
  ⟨rfl, ⟨"FSTART", 0x20000000, 0xFFFFFFFF⟩, by simp [opcodeTable], rfl, by decide⟩

theorem EncodingRow.fstop : EncodingRow.Statement .fstop :=
  ⟨rfl, ⟨"FSTOP", 0x21000000, 0xFFFFFFFF⟩, by simp [opcodeTable], rfl, by decide⟩

theorem EncodingRow.act : EncodingRow.Statement .act :=
  ⟨rfl, ⟨"ACT", 0x22000000, 0xFFFFFFFF⟩, by simp [opcodeTable], rfl, by decide⟩

theorem EncodingRow.boot : EncodingRow.Statement .boot :=
  ⟨rfl, ⟨"BOOT", 0x30000000, 0xFFFFFFFF⟩, by simp [opcodeTable], rfl, by decide⟩

theorem EncodingRow.event (ev : Event) : EncodingRow.Statement (.event ev) :=
  ⟨rfl, ⟨"EVENT", 0x31000000, 0xFFFFFFFC⟩, by simp [opcodeTable], rfl, by cases ev <;> decide⟩

theorem EncodingRow.fstep (pins : Pins) : EncodingRow.Statement (.fstep pins) :=
  ⟨rfl, ⟨"FSTEP", 0x32000000, 0xFFFFFFF8⟩, by simp [opcodeTable], rfl, by revert pins; decide⟩

theorem EncodingRow.routeStartupConfigNone : EncodingRow.Statement .routeStartupConfigNone :=
  ⟨rfl, by decide, .startupConfig, .none, rfl, rfl⟩

theorem EncodingRow.routeStartupConfigUp : EncodingRow.Statement .routeStartupConfigUp :=
  ⟨rfl, by decide, .startupConfig, .up, rfl, rfl⟩

theorem EncodingRow.routeStartupConfigDown : EncodingRow.Statement .routeStartupConfigDown :=
  ⟨rfl, by decide, .startupConfig, .down, rfl, rfl⟩

theorem EncodingRow.routeStartupConfigMode : EncodingRow.Statement .routeStartupConfigMode :=
  ⟨rfl, by decide, .startupConfig, .mode, rfl, rfl⟩

theorem EncodingRow.routeConfigChannelNone : EncodingRow.Statement .routeConfigChannelNone :=
  ⟨rfl, by decide, .configChannel, .none, rfl, rfl⟩

theorem EncodingRow.routeConfigChannelUp : EncodingRow.Statement .routeConfigChannelUp :=
  ⟨rfl, by decide, .configChannel, .up, rfl, rfl⟩

theorem EncodingRow.routeConfigChannelDown : EncodingRow.Statement .routeConfigChannelDown :=
  ⟨rfl, by decide, .configChannel, .down, rfl, rfl⟩

theorem EncodingRow.routeConfigChannelMode : EncodingRow.Statement .routeConfigChannelMode :=
  ⟨rfl, by decide, .configChannel, .mode, rfl, rfl⟩

theorem EncodingRow.routeConfigDisplayNone : EncodingRow.Statement .routeConfigDisplayNone :=
  ⟨rfl, by decide, .configDisplay, .none, rfl, rfl⟩

theorem EncodingRow.routeConfigDisplayUp : EncodingRow.Statement .routeConfigDisplayUp :=
  ⟨rfl, by decide, .configDisplay, .up, rfl, rfl⟩

theorem EncodingRow.routeConfigDisplayDown : EncodingRow.Statement .routeConfigDisplayDown :=
  ⟨rfl, by decide, .configDisplay, .down, rfl, rfl⟩

theorem EncodingRow.routeConfigDisplayMode : EncodingRow.Statement .routeConfigDisplayMode :=
  ⟨rfl, by decide, .configDisplay, .mode, rfl, rfl⟩

theorem EncodingRow.routeNormalNone : EncodingRow.Statement .routeNormalNone :=
  ⟨rfl, by decide, .normal, .none, rfl, rfl⟩

theorem EncodingRow.routeNormalUp : EncodingRow.Statement .routeNormalUp :=
  ⟨rfl, by decide, .normal, .up, rfl, rfl⟩

theorem EncodingRow.routeNormalDown : EncodingRow.Statement .routeNormalDown :=
  ⟨rfl, by decide, .normal, .down, rfl, rfl⟩

theorem EncodingRow.routeNormalMode : EncodingRow.Statement .routeNormalMode :=
  ⟨rfl, by decide, .normal, .mode, rfl, rfl⟩

theorem EncodingRow.routeMode2None : EncodingRow.Statement .routeMode2None :=
  ⟨rfl, by decide, .mode2, .none, rfl, rfl⟩

theorem EncodingRow.routeMode2Up : EncodingRow.Statement .routeMode2Up :=
  ⟨rfl, by decide, .mode2, .up, rfl, rfl⟩

theorem EncodingRow.routeMode2Down : EncodingRow.Statement .routeMode2Down :=
  ⟨rfl, by decide, .mode2, .down, rfl, rfl⟩

theorem EncodingRow.routeMode2Mode : EncodingRow.Statement .routeMode2Mode :=
  ⟨rfl, by decide, .mode2, .mode, rfl, rfl⟩

end Sys2Proof.Laws
end

