-- ==== Sys2Proof/Laws/PowerLoss.lean ====
section
/-!
SUPPORT. Loss of power inside an operation: what carrying out its outputs does, and that the outputs of the shared operations carried out
are those operations' effect on the store.
-/
namespace Sys2Proof.Machine

open Sys2Proof

@[simp] theorem carryOutAll_nil (s : State) : s.carryOutAll [] = s := rfl
@[simp] theorem carryOutAll_cons (s : State) (x : Output) (out : List Output) :
    s.carryOutAll (x :: out) = (s.carryOut x).carryOutAll out := rfl
theorem carryOutAll_append (s : State) (a b : List Output) : s.carryOutAll (a ++ b) = (s.carryOutAll a).carryOutAll b :=
  List.foldl_append ..

/-- A byte write is carried out as the write programs it, without its verification (20_memory.md R53). -/
theorem carryOut_storeWrite (s : State) (o : NvOffset) (v : Byte) : s.carryOut (.action (.storeWrite o.addr v)) = s.program o v := by
  unfold State.carryOut
  simp only [NvOffset.ofNat?_addr]

/-- Any other output only joins the trace. -/
theorem carryOut_quiet (s : State) (x : Output) (h : x.isStoreWrite = false) : s.carryOut x = { s with trace := s.trace ++ [x] } := by
  unfold State.carryOut
  split
  · cases h
  · rfl

theorem carryOutAll_quiet (s : State) (out : List Output) (h : ∀ x ∈ out, x.isStoreWrite = false) :
    s.carryOutAll out = { s with trace := s.trace ++ out } := by
  induction out generalizing s with
  | nil => simp
  | cons x out ih =>
    rw [carryOutAll_cons, carryOut_quiet s x (h x (List.mem_cons_self ..)), ih _ fun y hy => h y (List.mem_cons_of_mem _ hy)]
    simp

/-- What carrying out one output does: a byte of the store programmed at most, the canonical form kept. -/
theorem storeEffect_carryOut (s : State) (x : Output) :
    s.carryOut x = { s with
        nv := (s.carryOut x).nv, outcomes := (s.carryOut x).outcomes, drawIndex := (s.carryOut x).drawIndex,
        trace := (s.carryOut x).trace }
      ∧ (Memory.wf s.nv = true → Memory.wf (s.carryOut x).nv = true) := by
  unfold State.carryOut
  split
  · split
    · rename_i o _
      refine ⟨?_, fun h => Memory.wf_write _ _ _ h o.addr_lt⟩
      unfold State.program State.dropOutcome State.emit
      cases s.outcomes <;> rfl
    · exact ⟨rfl, id⟩
  · exact ⟨rfl, id⟩

/-- What carrying out a list of outputs does at most: the store, the draws and the trace change; the canonical form is kept. -/
theorem carryOutAll_frame (s : State) (out : List Output) :
    s.carryOutAll out = { s with
        nv := (s.carryOutAll out).nv, outcomes := (s.carryOutAll out).outcomes, drawIndex := (s.carryOutAll out).drawIndex,
        trace := (s.carryOutAll out).trace }
      ∧ (Memory.wf s.nv = true → Memory.wf (s.carryOutAll out).nv = true) := by
  induction out generalizing s with
  | nil => exact ⟨rfl, id⟩
  | cons x out ih =>
    have h := storeEffect_carryOut s x
    have k := ih (s.carryOut x)
    refine ⟨?_, fun w => k.2 (h.2 w)⟩
    have e := k.1
    rw [h.1] at e
    rw [carryOutAll_cons, h.1]
    exact e

/-- Carrying out reads the store and the draws only: it commutes with a change of every other register. -/
theorem carryOutAll_congr (u t : State) (out : List Output) :
    ({ u with nv := t.nv, outcomes := t.outcomes, drawIndex := t.drawIndex, trace := t.trace } : State).carryOutAll out = { u with
      nv := (t.carryOutAll out).nv, outcomes := (t.carryOutAll out).outcomes, drawIndex := (t.carryOutAll out).drawIndex,
      trace := (t.carryOutAll out).trace } := by
  induction out generalizing t with
  | nil => rfl
  | cons x out ih =>
    rw [carryOutAll_cons, carryOutAll_cons, ← ih (t.carryOut x)]
    congr 1
    unfold State.carryOut
    split
    · split
      · unfold State.program State.dropOutcome State.emit State.byteWritten State.nextOutcome
        dsimp only
        cases t.outcomes <;> rfl
      · rfl
    · rfl

/-- From `s` to `t` these outputs were made, and carried out they do to the store, the draws and the trace what happened. -/
structure Replays (s t : State) (out : List Output) : Prop where
  trace : t.trace = s.trace ++ out
  replay : s.carryOutAll out = { s with
    nv := t.nv, outcomes := t.outcomes, drawIndex := t.drawIndex, trace := t.trace }

/-- A change of other registers makes no output. -/
theorem replays_silent {s t : State} (hn : t.nv = s.nv) (ho : t.outcomes = s.outcomes) (hd : t.drawIndex = s.drawIndex)
    (ht : t.trace = s.trace) : Replays s t [] :=
  ⟨by simp [ht], by simp [hn, ho, hd, ht]⟩

theorem Replays.trans {s t u : State} {a b : List Output} (h : Replays s t a) (k : Replays t u b) : Replays s u (a ++ b) := by
  refine ⟨by rw [k.trace, h.trace, List.append_assoc], ?_⟩
  rw [carryOutAll_append, h.replay, carryOutAll_congr, k.replay]

/-- The first registers do not matter: a replay from `s` is one from any state with the same store, draws and trace. -/
theorem Replays.before {s s' t : State} {out : List Output} (h : Replays s' t out) (hn : s'.nv = s.nv) (ho : s'.outcomes = s.outcomes)
    (hd : s'.drawIndex = s.drawIndex) (ht : s'.trace = s.trace) : Replays s t out :=
  (replays_silent hn ho hd ht).trans h

theorem Replays.after {s t t' : State} {out : List Output} (h : Replays s t out) (hn : t'.nv = t.nv) (ho : t'.outcomes = t.outcomes)
    (hd : t'.drawIndex = t.drawIndex) (ht : t'.trace = t.trace) : Replays s t' out := by
  simpa using h.trans (replays_silent hn ho hd ht)

theorem replays_outputs (s : State) (out : List Output) (h : ∀ x ∈ out, x.isStoreWrite = false) :
    Replays s { s with trace := s.trace ++ out } out := ⟨rfl, carryOutAll_quiet s out h⟩

theorem replays_emit (s : State) (a : Action) (h : (Output.action a).isStoreWrite = false) : Replays s (s.emit a) [.action a] :=
  replays_outputs s [.action a] (by simpa using h)

/-- A byte write: its action and, where the verification failed, the kind raised (20_memory.md R53). -/
theorem replays_memWrite (s : State) (o : NvOffset) (v : Byte) :
    Replays s (s.memWrite o v) (.action (.storeWrite o.addr v) :: verifyOutput o.addr v (s.byteWritten v)) := by
  refine ⟨by rw [memWrite_trace]; simp, ?_⟩
  rw [carryOutAll_cons, carryOut_storeWrite, carryOutAll_quiet]
  · rw [memWrite_eq]
    unfold State.program State.emit State.dropOutcome verifyOutput
    cases s.outcomes <;> simp
  · unfold verifyOutput
    split <;> simp [Output.isStoreWrite]

theorem Replays.noteFailures {s t : State} {out : List Output} (h : Replays s t out) (rs : List WriteResult) :
    Replays s (t.noteFailures rs) out := by
  rw [noteFailures_eq]
  exact h.after rfl rfl rfl rfl

/-- ConfigSave (45_collaborators.md R178). -/
theorem replays_configSave (c : BitVec 4) (r : BitVec 3) (z : Bool) (s : State) : ∃ out, Replays s (configSave c r z s) out := by
  have hr : Replays s (readConfig s) _ :=
    ((replays_emit s _ rfl).trans (replays_emit _ _ rfl)).trans (replays_emit _ _ rfl)
  unfold configSave
  split
  · have k := (replays_emit (readConfig s) .storeUnlock rfl).trans ((replays_memWrite _ .channel (channelByte c)).trans
      ((replays_memWrite _ .range (rangeByte r)).trans ((replays_memWrite _ .zeroBased (byteOfFlag z)).trans
        (replays_emit _ .storeLock rfl))))
    exact ⟨_, (hr.trans k).noteFailures _⟩
  · exact ⟨_, hr⟩

/-- The reads, the unlock and the high byte of StoreLast, and after them the rest (45_collaborators.md R180). -/
theorem replays_writeLast (p : BitVec 14) (s : State) :
    ∃ rest, Replays s (writeLast p (readLast s))
      ([.action (.storeRead 2), .action (.storeRead 3), .action .storeUnlock, .action (.storeWrite 2 (patchHi p))] ++ rest) := by
  unfold writeLast
  have h := ((replays_emit s (.storeRead 2) rfl).trans (replays_emit _ (.storeRead 3) rfl)).trans (replays_emit _ .storeUnlock rfl)
  have k := (replays_memWrite ((readLast s).emit .storeUnlock) .lastHi (patchHi p)).trans
    ((replays_memWrite _ .lastLo (patchLo p)).trans (replays_emit _ .storeLock rfl))
  exact ⟨_, (h.trans k).noteFailures _⟩

theorem replays_storeLast (p : BitVec 14) (s : State) : ∃ out, Replays s (storeLast p s) out := by
  unfold storeLast
  split
  · obtain ⟨rest, h⟩ := replays_writeLast p s
    exact ⟨_, h⟩
  · exact ⟨_, (replays_emit s _ rfl).trans (replays_emit _ _ rfl)⟩

/-- The outputs of MidiSend are no store writes (45_collaborators.md R171). -/
theorem midiOutputs_quiet (c : Config) (channel p range : Nat) : ∀ x ∈ midiOutputs c channel p range, x.isStoreWrite = false := by
  unfold midiOutputs
  split <;> simp [Output.isStoreWrite]

/-- SendPatch (44_mode_fsm.md R136). -/
theorem replays_sendPatch (s : State) : ∃ out, Replays s (sendPatch s) out := by
  unfold sendPatch
  dsimp only
  have hm : Replays s (startActivity (midiSend s.channel s.patch s.range s))
      (midiOutputs s.cfg s.channel.toNat s.patch.toNat s.range.toNat) := by
    rw [midiSend_eq, startActivity_eq]
    exact (replays_outputs s _ (midiOutputs_quiet _ _ _ _)).after rfl rfl rfl rfl
  split
  · obtain ⟨out, h⟩ := replays_storeLast s.patch (startActivity (midiSend s.channel s.patch s.range s))
    exact ⟨_, (hm.trans h).trans (replays_emit _ _ rfl)⟩
  · exact ⟨_, hm.trans (replays_emit _ _ rfl)⟩

/-- ConfigExit (44_mode_fsm.md R137). -/
theorem replays_configExit (s : State) : ∃ out, Replays s (configExit s) out := by
  unfold configExit
  dsimp only
  obtain ⟨out, h⟩ := replays_configSave s.channel s.range s.zeroBased (stopFlash s)
  have h0 : Replays s (stopFlash s) _ := (replays_emit (disarmFlash s) _ rfl).before rfl rfl rfl rfl
  have h1 : Replays s ((configSave s.channel s.range s.zeroBased (stopFlash s)).goto .normal) _ :=
    (h0.trans h).after rfl rfl rfl rfl
  exact ⟨_, h1.trans (replays_emit _ _ rfl)⟩

end Sys2Proof.Machine
end

