-- ==== Sys2Proof/Machine/Script.lean ====
section
/-!
DEFINITION. The stimulus scripts of the spec: their pseudo-operations, the words they stand for, and their text (30_encoding.md R83,
R84). Comments and the lines of expected results are annotations of a script and have no form here.
-/
namespace Sys2Proof.Machine

open Sys2Proof

/-- `TICKS k` (30_encoding.md R84). -/
def scriptTicks (k : Nat) : List Instr := List.replicate k .tick

/-- `POLL pins` (30_encoding.md R84). -/
def scriptPoll (pins : Pins) : List Instr := [.eval pins, .eval pins, .eval pins, .pend]

/-- `DELAY n` (30_encoding.md R84). -/
def scriptDelay (n : BitVec 16) : List Instr := [.dload n, .dwait]

/-- `HOLD pins k` (30_encoding.md R84). -/
def scriptHold (pins : Pins) (k : Nat) : List Instr := (List.replicate k (.tick :: scriptPoll pins)).flatten

/-- `RUN pins k` (30_encoding.md R84). -/
def scriptRun (pins : Pins) (k : Nat) : List Instr := List.replicate k (.fstep pins)

/-- The stimulus of one instruction; a route is no stimulus (30_encoding.md R70, R79). -/
def stimulusOf (i : Instr) : Option Stimulus :=
  match encode i with
  | .op w => some (.op w)
  | .route _ => none

/-- The stimuli of a script, if every line of it is an operation (30_encoding.md R83). -/
def assemble : List Instr → Option (List Stimulus)
  | [] => some []
  | i :: rest =>
    match stimulusOf i, assemble rest with
    | some x, some xs => some (x :: xs)
    | _, _ => none

/-- `<pins>`: three characters, a letter where the pin is asserted (30_encoding.md R83). -/
def pinsText (pins : Pins) : String :=
  (if pinOf .up pins then "U" else "-") ++ (if pinOf .down pins then "D" else "-")
    ++ (if pinOf .mode pins then "M" else "-")

/-- An event's name in a script (30_encoding.md R83). -/
def eventText : Event → String
  | .none => "NONE"
  | .up => "UP"
  | .down => "DOWN"
  | .mode => "MODE"

/-- The script line of an operation; a route has no line of its own (30_encoding.md R83). -/
def lineText (i : Instr) : Option String :=
  match i with
  | .dload n => some ("DLOAD " ++ toString n.toNat)
  | .sbegin timeout ar => some ("SBEGIN to=" ++ toString timeout.toNat ++ " ar=" ++ (if ar then "1" else "0"))
  | .eval pins => some ("EVAL " ++ pinsText pins)
  | .fstep pins => some ("FSTEP " ++ pinsText pins)
  | .event ev => some ("EVENT " ++ eventText ev)
  | i => if i.isOperation then some i.mnemonic else none

end Sys2Proof.Machine
end

