-- ==== Sys2Proof/Tests/Slice0.lean ====
section
/-!
SUPPORT. The model's own tests. Expected values are those of spec/95_test_vectors.md (the vector is named in the comment) or are worked
out by hand from the rule that is named; and, for every statement with hypotheses, a witness that meets them together.
-/
namespace Sys2Proof.Tests

open Sys2Proof Sys2Proof.Machine

/-! ## Helpers -/

/-- The result is a next state and the check holds of it. -/
def nextIs (r : Result) (p : State → Bool) : Bool :=
  match r with
  | .next t => p t
  | .fault _ => false
  | .refused _ => false

/-- The result is this refusal. -/
def refusedAs (r : Result) (x : Refusal) : Bool :=
  match r with
  | .refused y => y == x
  | .next _ => false
  | .fault _ => false

/-- After reset, with the draw `ms = 1000` the vectors of section 1 use. -/
def idle : State := { State.reset with ms := 1000 }

/-- A scan in progress at this position. -/
def scanning (idx : BitVec 2) : State := { idle with scanActive := true, scanIdx := idx }

/-- A scan about to evaluate Up, whose record is given. -/
def upRecord (st : BitVec 2) (downSince firstDown now : Nat) : State :=
  { scanning 0 with
    ms := now
    sw := { idle.sw with up := { st := st, downSince := downSince, firstDown := firstDown } } }

/-- A booted block in this mode, no scan in progress. -/
def inMode (m : Mode) : State := { State.reset with booted := true, mode := m.code }

/-- A booted block in the middle of a scan of Mode2, flashing, with a patch and stored bytes. -/
def browsing : State :=
  { scanning 1 with
    booted := true, mode := 4, patch := 10, work := 127, scanAr := true, flashArmed := true, flashCnt := 3
    sw := { idle.sw with up := { st := 2, downSince := 900, firstDown := 100 } }
    nv := [(0, 5), (2, 1)], script := [.op tickWord] }

/-- A booted block in Normal with restore built in, the last patch 255 stored, range 4, and two writes that will succeed. -/
def storing : State :=
  { inMode .normal with
    cfg := { Config.tc1 with restoreLast := true }, range := 4, patch := 255, nv := [(3, 255)], outcomes := [.ok, .ok] }

/-- The two-switch configuration. -/
def twoSwitch : Config := { Config.tc1 with nPhys := 2 }

/-! ## Well-formedness: a term each check refuses, and the nearest one it accepts -/

theorem test_wf_tc1 : Config.tc1.wellFormed = true := by decide
theorem test_wf_width : { Config.tc1 with width := 15 }.wellFormed = false ∧ { Config.tc1 with width := 16 }.wellFormed = true := by
  decide
theorem test_wf_nPhys : { Config.tc1 with nPhys := 1 }.wellFormed = false ∧ { Config.tc1 with nPhys := 4 }.wellFormed = false
    ∧ twoSwitch.wellFormed = true := by decide
theorem test_wf_periods : { Config.tc1 with fastMs := 500 }.wellFormed = false
    ∧ { Config.tc1 with fastMs := 499 }.wellFormed = true := by decide
theorem test_wf_flashToggle : { Config.tc1 with flashToggleMs := 0 }.wellFormed = false := by decide
theorem test_wf_levels : { Config.tc1 with intMin := 15 }.wellFormed = false
    ∧ { Config.tc1 with intMin := 14 }.wellFormed = true := by decide
theorem test_wf_startupWait : { Config.tc1 with debounceMs := 99 }.wellFormed = false
    ∧ { Config.tc1 with debounceMs := 98 }.wellFormed = true := by decide
theorem test_wf_activity : { Config.tc1 with activityMs := 0 }.wellFormed = false := by decide
theorem test_wf_scanOrder :
    { Config.tc1 with scanOrder := { first := .up, second := .down, third := .up } }.wellFormed = false
    ∧ { Config.tc1 with scanOrder := { first := .mode, second := .up, third := .down } }.wellFormed = true := by decide
theorem test_wf_script : scriptWellFormed [.tick, .routeNormalUp] = false ∧ scriptWellFormed [.tick, .pend] = true := by decide

/-! ## Decoding: words written out from the encoding tables (30_encoding.md R71 to R80; 95_test_vectors.md section 2.1) -/

theorem test_decode_tick : decodeOp 0b00000001_000000000000000000000000#32 = .ok .tick := by decide
theorem test_decode_dload : decodeOp 0b00000010_00000000_1111111111111111#32 = .ok (.dload 65535)
    ∧ decodeOp 0b00000010_00000000_0000000000000011#32 = .ok (.dload 3) := by decide
theorem test_decode_dwait : decodeOp 0b00000011_000000000000000000000000#32 = .ok .dwait := by decide
theorem test_decode_sbegin : decodeOp 0b00010000_0000000_1_0000101110111000#32 = .ok (.sbegin 3000 true)
    ∧ decodeOp 0b00010000_0000000_0_0000000001100100#32 = .ok (.sbegin 100 false) := by decide
theorem test_decode_eval : decodeOp 0b00010001_000000000000000000000_011#32 = .ok (.eval 3)
    ∧ decodeOp 0b00010001_000000000000000000000_100#32 = .ok (.eval 4) := by decide
theorem test_decode_pend : decodeOp 0b00010010_000000000000000000000000#32 = .ok .pend := by decide
theorem test_decode_fstart : decodeOp 0b00100000_000000000000000000000000#32 = .ok .fstart := by decide
theorem test_decode_fstop : decodeOp 0b00100001_000000000000000000000000#32 = .ok .fstop := by decide
theorem test_decode_act : decodeOp 0b00100010_000000000000000000000000#32 = .ok .act := by decide
theorem test_decode_boot : decodeOp 0b00110000_000000000000000000000000#32 = .ok .boot := by decide
theorem test_decode_event : decodeOp 0b00110001_0000000000000000000000_00#32 = .ok (.event .none)
    ∧ decodeOp 0b00110001_0000000000000000000000_01#32 = .ok (.event .up)
    ∧ decodeOp 0b00110001_0000000000000000000000_10#32 = .ok (.event .down)
    ∧ decodeOp 0b00110001_0000000000000000000000_11#32 = .ok (.event .mode) := by decide
theorem test_decode_fstep : decodeOp 0b00110010_000000000000000000000_111#32 = .ok (.fstep 7)
    ∧ decodeOp 0b00110010_000000000000000000000_001#32 = .ok (.fstep 1) := by decide
theorem test_decode_routes_startupConfig : decodeRoute 0b000_00#5 = .ok .routeStartupConfigNone
    ∧ decodeRoute 0b000_01#5 = .ok .routeStartupConfigUp ∧ decodeRoute 0b000_10#5 = .ok .routeStartupConfigDown
    ∧ decodeRoute 0b000_11#5 = .ok .routeStartupConfigMode := by decide
theorem test_decode_routes_configChannel : decodeRoute 0b001_00#5 = .ok .routeConfigChannelNone
    ∧ decodeRoute 0b001_01#5 = .ok .routeConfigChannelUp ∧ decodeRoute 0b001_10#5 = .ok .routeConfigChannelDown
    ∧ decodeRoute 0b001_11#5 = .ok .routeConfigChannelMode := by decide
theorem test_decode_routes_configDisplay : decodeRoute 0b010_00#5 = .ok .routeConfigDisplayNone
    ∧ decodeRoute 0b010_01#5 = .ok .routeConfigDisplayUp ∧ decodeRoute 0b010_10#5 = .ok .routeConfigDisplayDown
    ∧ decodeRoute 0b010_11#5 = .ok .routeConfigDisplayMode := by decide
theorem test_decode_routes_normal : decodeRoute 0b011_00#5 = .ok .routeNormalNone
    ∧ decodeRoute 0b011_01#5 = .ok .routeNormalUp ∧ decodeRoute 0b011_10#5 = .ok .routeNormalDown
    ∧ decodeRoute 0b011_11#5 = .ok .routeNormalMode := by decide
theorem test_decode_routes_mode2 : decodeRoute 0b100_00#5 = .ok .routeMode2None
    ∧ decodeRoute 0b100_01#5 = .ok .routeMode2Up ∧ decodeRoute 0b100_10#5 = .ok .routeMode2Down
    ∧ decodeRoute 0b100_11#5 = .ok .routeMode2Mode := by decide
theorem test_decode_illegal : decodeOp 0x00000000 = .error (.unassignedOp 0) ∧ decodeOp 0x01000001 = .error (.reservedBitSet 0x01000001)
    ∧ decodeOp 0x02010000 = .error (.reservedBitSet 0x02010000) ∧ decodeOp 0x10020000 = .error (.reservedBitSet 0x10020000)
    ∧ decodeOp 0x11000008 = .error (.reservedBitSet 0x11000008) ∧ decodeOp 0x31000004 = .error (.reservedBitSet 0x31000004)
    ∧ decodeOp 0xFF000000 = .error (.unassignedOp 0xFF) ∧ decodeRoute 0b101_00#5 = .error (.reservedRoute 0b10100) := by decide
theorem test_decodeTableWord : decodeTableWord 32 0x10010BB8 = some (.sbegin 3000 true) ∧ decodeTableWord 8 0b10011 = some .routeMode2Mode
    ∧ decodeTableWord 8 20 = none ∧ decodeTableWord 32 0 = none := by decide

/-! ## One step each -/

/-- T1: the counter wraps, the countdown reaches 0. -/
theorem test_tick_wraps : nextIs (exec .tick { State.reset with ms := 0xFFFFFFFF, delayCnt := 1 })
    (fun t => t.ms == 0 && t.delayCnt == 0) = true := by decide
/-- F1: the toggle at the last count. -/
theorem test_tick_toggles : nextIs (exec .tick { State.reset with flashArmed := true, flashCnt := 1 })
    (fun t => t.intensity == 1 && t.flashCnt == 250) = true := by decide
/-- T2 and T4. -/
theorem test_dload : nextIs (exec (.dload 3) idle) (fun t => t.delayCnt == 3 && t.ms == 1000) = true := by decide
theorem test_dload_refused : refusedAs (exec (.dload 5) { idle with delayCnt := 2 }) .delayOutstanding = true := by decide
/-- T2: hold, then complete. -/
theorem test_dwait_holds : nextIs (exec .dwait { idle with delayCnt := 3 }) (fun t => t.held && t.delayCnt == 3) = true := by decide
theorem test_dwait_completes : nextIs (exec .dwait { idle with held := true }) (fun t => !t.held) = true := by decide
/-- D1. -/
theorem test_sbegin : nextIs (exec (.sbegin 3000 false) { idle with scanIdx := 2, scanDone := true, periodAcc := true })
    (fun t => t.scanStart == 1000 && t.scanTimeout == 3000 && !t.scanAr && t.scanIdx == 0 && !t.periodAcc && !t.scanDone
      && t.scanActive) = true := by decide
theorem test_sbegin_refused : refusedAs (exec (.sbegin 0 false) (scanning 0)) .scanInProgress = true := by decide
/-- D3: 20 is not past the threshold, 21 is. -/
theorem test_eval_at_threshold : nextIs (exec (.eval 1) (upRecord 1 1000 1000 1020))
    (fun t => t.scanIdx == 1 && t.sw.up.st == 1 && !t.scanDone) = true := by decide
theorem test_eval_past_threshold : nextIs (exec (.eval 1) (upRecord 1 1000 1000 1021))
    (fun t => t.sw.up.st == 2 && t.scanResult == .up && t.scanDone && !t.scanActive) = true := by decide
/-- D4: the timeout elapses at equality. -/
theorem test_pend_times_out : nextIs (exec .pend { scanning 3 with ms := 1100, scanStart := 1000, scanTimeout := 100 })
    (fun t => t.scanResult == .none && t.scanDone && !t.scanActive && t.trace == [.raised .noActivationWithinTimeout]) = true := by
  decide
/-- D11: the refresh. -/
theorem test_pend_refreshes : nextIs (exec .pend { scanning 3 with flashArmed := true, intensity := 1, periodAcc := true })
    (fun t => t.scanIdx == 0 && !t.periodAcc && t.trace == [.action (.dispSetIntensity 1)]) = true := by decide
/-- F1 and F2. -/
theorem test_fstart : nextIs (exec .fstart { idle with ind := true, actCnt := 40, intensity := 1 })
    (fun t => t.flashArmed && t.flashCnt == 250 && t.intensity == 15 && !t.ind && t.actCnt == 0 && t.trace == []) = true := by decide
theorem test_fstop : nextIs (exec .fstop { idle with flashArmed := true, flashCnt := 213, intensity := 1 })
    (fun t => !t.flashArmed && t.flashCnt == 213 && t.intensity == 15 && t.trace == [.action (.dispSetIntensity 15)]) = true := by
  decide
/-- F2 and F3. -/
theorem test_act : nextIs (exec .act { idle with cfg := { Config.tc1 with extIndicator := true } })
    (fun t => t.ind && t.actCnt == 50) = true := by decide
theorem test_act_without_indicator : nextIs (exec .act idle) (fun t => !t.ind && t.actCnt == 0) = true := by decide
/-- M1. -/
theorem test_boot : nextIs (exec .boot
      { State.reset with
        cfg := { Config.tc1 with restoreLast := true }
        nv := [(0, 0xF5), (1, 7), (2, 0x12), (3, 0x34), (4, 0x80)] })
    (fun t => t.channel == 5 && t.range == 2 && t.zeroBased && t.patch == 383 && t.work == 383 && t.booted
      && actionsOf t.trace == [.dispInit, .storeRead 0, .storeRead 1, .storeRead 4, .storeRead 2, .storeRead 3]) = true := by decide
theorem test_boot_refused : refusedAs (exec .boot (inMode .normal)) .alreadyBooted = true := by decide
/-- M2, and S4 through EVENT. -/
theorem test_event_refused : refusedAs (exec (.event .up) State.reset) .eventNotAccepted = true := by decide
theorem test_event_up : nextIs (exec (.event .up) { inMode .normal with patch := 127, scanDone := true })
    (fun t => t.patch == 0 && !t.scanDone
      && actionsOf t.trace == [.midiTx 0xC0, .midiTx 0x00, .dispShowPatch 1]) = true := by decide
/-- R132: before BOOT, and the scan Mode2 asks for. -/
theorem test_fstep_boots : nextIs (exec (.fstep 0) State.reset) (fun t => t.booted && t.mode == 0) = true := by decide
theorem test_fstep_begins : nextIs (exec (.fstep 7) (inMode .mode2))
    (fun t => t.scanActive && t.scanTimeout == 0 && t.scanAr && t.sw.up.st == 0) = true := by decide
/-- M3. -/
theorem test_routeStartupConfigNone : nextIs (exec .routeStartupConfigNone (inMode .startupConfig))
    (fun t => t.mode == 3 && !t.flashArmed && t.trace == [.action (.dispShowPatch 1)]) = true := by decide
theorem test_routeStartupConfigUp : nextIs (exec .routeStartupConfigUp (inMode .startupConfig))
    (fun t => t.mode == 1 && t.flashArmed && t.trace == [.action (.dispShowChannelRange 0 0)]) = true := by decide
theorem test_routeStartupConfigDown : nextIs (exec .routeStartupConfigDown (inMode .startupConfig))
    (fun t => t.mode == 2 && t.flashCnt == 250 && t.trace == [.action (.dispShowZeroBased false)]) = true := by decide
theorem test_routeStartupConfigMode : nextIs (exec .routeStartupConfigMode (inMode .startupConfig))
    (fun t => t.mode == 1 && t.flashArmed && t.trace == [.action (.dispShowChannelRange 0 0)]) = true := by decide
/-- K1: the second write fails with 254. -/
theorem test_routeConfigChannelNone : nextIs (exec .routeConfigChannelNone
      { inMode .configChannel with channel := 1, range := 1, flashArmed := true, outcomes := [.ok, .fail 254, .ok] })
    (fun t => t.mode == 3 && t.cfgErr && t.nv == [(0, 1), (1, 254)]
      && t.trace == [.action (.dispSetIntensity 15), .action (.storeRead 0), .action (.storeRead 1), .action (.storeRead 4),
        .action .storeUnlock, .action (.storeWrite 0 1), .action (.storeWrite 1 1), .raised (.storageVerifyFailure 1),
        .action (.storeWrite 4 0), .action .storeLock, .action (.dispShowPatch 1)]) = true := by decide
/-- M4. -/
theorem test_routeConfigChannelUp : nextIs (exec .routeConfigChannelUp { inMode .configChannel with channel := 15, range := 4 })
    (fun t => t.channel == 0 && t.trace == [.action (.dispShowChannelRange 0 4)]) = true := by decide
theorem test_routeConfigChannelDown : nextIs (exec .routeConfigChannelDown { inMode .configChannel with channel := 0, range := 4 })
    (fun t => t.channel == 15 && t.trace == [.action (.dispShowChannelRange 15 4)]) = true := by decide
/-- S5. -/
theorem test_routeConfigChannelMode : nextIs (exec .routeConfigChannelMode
      { inMode .configChannel with channel := 3, range := 4, patch := 900 })
    (fun t => t.range == 0 && t.patch == 127 && t.trace == [.action (.dispShowChannelRange 3 0)]) = true := by decide
/-- K2's comparison: nothing differs, nothing is written (R146). -/
theorem test_routeConfigDisplayNone : nextIs (exec .routeConfigDisplayNone { inMode .configDisplay with flashArmed := true })
    (fun t => t.mode == 3 && !t.flashArmed && t.trace == [.action (.dispSetIntensity 15), .action (.storeRead 0),
      .action (.storeRead 1), .action (.storeRead 4), .action (.dispShowPatch 1)]) = true := by decide
/-- M5. -/
theorem test_routeConfigDisplayUp : nextIs (exec .routeConfigDisplayUp (inMode .configDisplay))
    (fun t => t.zeroBased && t.trace == [.action (.dispShowZeroBased true)]) = true := by decide
theorem test_routeConfigDisplayDown : nextIs (exec .routeConfigDisplayDown { inMode .configDisplay with zeroBased := true })
    (fun t => !t.zeroBased && t.trace == [.action (.dispShowZeroBased false)]) = true := by decide
theorem test_routeConfigDisplayMode : nextIs (exec .routeConfigDisplayMode
      { inMode .configDisplay with zeroBased := true, flashArmed := true, outcomes := [.ok, .ok, .ok] })
    (fun t => t.mode == 3 && t.nv == [(4, 1)] && !t.cfgErr
      && actionsOf t.trace == [.dispSetIntensity 15, .storeRead 0, .storeRead 1, .storeRead 4, .storeUnlock, .storeWrite 0 0,
        .storeWrite 1 0, .storeWrite 4 1, .storeLock, .dispShowPatch 0]) = true := by decide
/-- M7. -/
theorem test_routeNormalNone : nextIs (exec .routeNormalNone (inMode .normal)) (fun t => t == inMode .normal) = true := by decide
/-- S6. -/
theorem test_routeNormalUp : nextIs (exec .routeNormalUp
      { inMode .normal with channel := 5, range := 1, patch := 129, zeroBased := true })
    (fun t => t.patch == 130 && actionsOf t.trace
      == [.midiTx 0xB5, .midiTx 0x00, .midiTx 0x01, .midiTx 0xC5, .midiTx 0x02, .dispShowPatch 130]) = true := by decide
/-- M6. -/
theorem test_routeNormalDown : nextIs (exec .routeNormalDown { inMode .normal with channel := 5, range := 1, zeroBased := true })
    (fun t => t.patch == 255 && actionsOf t.trace
      == [.midiTx 0xB5, .midiTx 0x00, .midiTx 0x01, .midiTx 0xC5, .midiTx 0x7F, .dispShowPatch 255]) = true := by decide
/-- S9. -/
theorem test_routeNormalMode : nextIs (exec .routeNormalMode { inMode .normal with patch := 10 })
    (fun t => t.mode == 4 && t.work == 10 && t.flashArmed && t.trace == []) = true := by decide
theorem test_routeMode2None : nextIs (exec .routeMode2None (inMode .mode2)) (fun t => t == inMode .mode2) = true := by decide
theorem test_routeMode2Up : nextIs (exec .routeMode2Up { inMode .mode2 with patch := 10, work := 10 })
    (fun t => t.work == 11 && t.patch == 10 && t.trace == [.action (.dispShowPatch 12)]) = true := by decide
/-- R135: `dec(0)` is the maximum. -/
theorem test_routeMode2Down : nextIs (exec .routeMode2Down { inMode .mode2 with patch := 10, work := 0 })
    (fun t => t.work == 127 && t.patch == 10 && t.trace == [.action (.dispShowPatch 128)]) = true := by decide
theorem test_routeMode2Mode : nextIs (exec .routeMode2Mode { inMode .mode2 with patch := 10, work := 13, flashArmed := true })
    (fun t => t.patch == 13 && t.mode == 3 && !t.flashArmed
      && actionsOf t.trace == [.midiTx 0xC0, .midiTx 0x0D, .dispShowPatch 14, .dispSetIntensity 15]) = true := by decide
/-- Section 2.6: a channel and a banked range; bank switching with range 0. -/
theorem test_midiSend : midiBytes Config.tc1 9 999 4 = [0xB9, 0x00, 0x07, 0xC9, 0x67]
    ∧ midiBytes { Config.tc1 with bankSwitch := true } 15 5 0 = [0xBF, 0x00, 0x00, 0xCF, 0x05]
    ∧ midiBytes Config.tc1 0 130 0 = [0xC0, 0x02] := by decide
/-- T5 and T6. -/
theorem test_elapsed : elapsed 16 0x0005 0xFFF0 = 21 ∧ elapsed 16 110 100 = 10 := by decide
/-- R55, R56: high byte first. -/
theorem test_storeLast : nextIs (.next (storeLast 0x1234
      { inMode .normal with cfg := { Config.tc1 with restoreLast := true }, outcomes := [.ok, .ok] }))
    (fun t => t.nv == [(2, 0x12), (3, 0x34)]) = true := by decide
/-- 30_encoding.md R84: the words of a POLL. -/
theorem test_poll_words : assemble (scriptPoll 3)
    = some [.op 0x11000003, .op 0x11000003, .op 0x11000003, .op 0x12000000] := by decide

/-! ## What withFetchWord places, the next step runs -/

theorem test_fetch_operation : nextIs (step (State.reset.withFetchWord 32 0x20000000)) (fun t => t.flashArmed && t.script == []) = true := by
  decide
theorem test_fetch_route : nextIs (step (State.reset.withFetchWord 8 0b01111)) (fun t => t.mode == 4 && t.flashArmed) = true := by decide
theorem test_core_reset : Sys2Proof.core.reset = State.reset := rfl

/-! ## Witnesses: states and operands that meet the hypotheses of a statement together -/

theorem witness_performs (m : Mode) : CanPerform m (inMode m) := ⟨rfl, rfl, rfl, by show (0 : Nat) < 5; decide⟩

theorem witness_DecodedWordEncodesBack : decodeOp 0x1001FFFF = .ok (.sbegin 0xFFFF true)
    ∧ decodeRoute 19 = .ok .routeMode2Mode := by decide
theorem witness_LegalWordsAreTheRowsOfTheOpcodeMap : decodeOp 0x0200FFFF = .ok (.dload 0xFFFF)
    ∧ opcodeTable.any (fun row => row.names 0x0200FFFF && row.mnemonic == "DLOAD") = true := by decide
theorem witness_RouteWordSelectsItsRoute : 20 ≤ (20#5).toNat ∧ 20 ≤ (31#5).toNat := by decide
theorem witness_StepRunsTheDecodedOperation :
    browsing.cfg.wellFormed = true ∧ browsing.script = .op 0x01000000 :: [] ∧ browsing.held = false
      ∧ decodeOp 0x01000000 = .ok .tick := by decide
theorem witness_IllegalWordsAreRefused :
    idle.cfg.wellFormed = true ∧ { idle with script := [.op 0x10020000] }.script = .op 0x10020000 :: [] ∧ idle.held = false
      ∧ (∀ row ∈ opcodeTable, row.names 0x10020000 = false) ∧ (∀ row ∈ opcodeTable, row.names 0x04000000 = false) := by decide
theorem witness_IllegalParametersAreRefused :
    { idle with cfg := { Config.tc1 with width := 15 } }.cfg.wellFormed = false ∧ Config.tc1.wellFormed = true := by decide
/-- Every clause: another word, the DWAIT, a TICK. -/
theorem witness_HeldMainRepeatsItsDwait :
    { idle with held := true, script := [.op 0x12000000] }.cfg.wellFormed = true
      ∧ { idle with held := true, script := [.op 0x12000000] }.held = true
      ∧ (0x12000000 : OpWord) ≠ tickWord ∧ (0x12000000 : OpWord) ≠ dwaitWord
      ∧ (0x03000000 : OpWord) = dwaitWord ∧ (0x01000000 : OpWord) = tickWord := by decide
theorem witness_UnscriptedStep : idle.cfg.wellFormed = true ∧ idle.script = []
    ∧ ({ idle with drawIndex := 1 } : State) = { idle with drawIndex := idle.drawIndex + 1 } := by decide
/-- Each clause of the countdowns: the last count, an earlier one, not armed, the indicator running and at its last count. -/
theorem witness_TickRunsTheFlashCountdowns :
    { idle with flashArmed := true, flashCnt := 1 }.flashCnt = 1 ∧ browsing.flashArmed = true ∧ browsing.flashCnt ≠ 1
      ∧ idle.flashArmed = false ∧ { Config.tc1 with extIndicator := true }.extIndicator = true
      ∧ { idle with actCnt := 1 }.actCnt ≠ 0 ∧ idle.cfg.extIndicator = false := by decide
theorem witness_Delay : idle.delayCnt = 0 ∧ { idle with delayCnt := 1 }.delayCnt ≠ 0 := by decide
theorem witness_DelayCountsTicksExactly : nextIs (runOps [.tick, .pend] { scanning 3 with delayCnt := 1 })
    (fun t => t.delayCnt == 0) = true ∧ Instr.dload 0 ∉ [Instr.tick, .pend] := by decide
/-- Each clause: equal times, the wrap. -/
theorem witness_Elapsed : 0 < 2 ^ 16 ∧ 65535 < 2 ^ 16 ∧ elapsed 16 7 7 = 0 ∧ elapsed 16 0 65535 = 1 := by decide
theorem witness_SbeginBeginsAScan : idle.scanActive = false ∧ (scanning 0).scanActive = true := by decide
theorem witness_EvalIsRefusedWhenNotDue : idle.scanActive = false ∧ (scanning 3).scanIdx = 3
    ∧ (scanning 2).scanActive = true ∧ (scanning 2).scanIdx ≠ 3 ∧ (upRecord 3 0 0 0).sw.up.st = 3 := by decide
theorem witness_SwitchReadsItsPin : Config.tc1.nPhys ≠ 2 ∧ twoSwitch.nPhys = 2 ∧ combined twoSwitch .down 3 = true
    ∧ combined Config.tc1 .down 3 = false ∧ combined twoSwitch .mode 7 = false := by decide

/-- An evaluation is due at each position of the order. -/
theorem witness_EvalDue : EvalDue .up (scanning 0) ∧ EvalDue .down (scanning 1) ∧ EvalDue .mode (scanning 2) :=
  ⟨⟨rfl, .inl ⟨rfl, rfl⟩, by decide⟩, ⟨rfl, .inr (.inl ⟨rfl, rfl⟩), by decide⟩, ⟨rfl, .inr (.inr ⟨rfl, rfl⟩), by decide⟩⟩
theorem witness_PressStartsTheDebounce : EvalDue .mode (scanning 2) ∧ combined (scanning 2).cfg .mode 4 = false
    ∧ asserted (scanning 2).cfg .mode 4 = true ∧ ((scanning 2).sw.get .mode).st = 0 :=
  ⟨witness_EvalDue.2.2, by decide⟩
/-- Both clauses, on either side of the threshold. -/
theorem witness_Confirm : EvalDue .up (upRecord 1 1000 1000 1021) ∧ combined Config.tc1 .up 1 = false
    ∧ asserted Config.tc1 .up 1 = true ∧ ((upRecord 1 1000 1000 1021).sw.get .up).st = 1
    ∧ (20 < elapsed 32 1021 1000 ∧ elapsed 32 1020 1000 ≤ 20) :=
  ⟨⟨rfl, .inl ⟨rfl, rfl⟩, by decide⟩, by decide⟩
theorem witness_HeldSwitchOnlyAdvances : EvalDue .up (upRecord 2 1000 1000 9000) ∧ combined Config.tc1 .up 1 = false
    ∧ asserted Config.tc1 .up 1 = true ∧ ((upRecord 2 1000 1000 9000).sw.get .up).st = 2 ∧ (upRecord 2 1000 1000 9000).scanAr = false :=
  ⟨⟨rfl, .inl ⟨rfl, rfl⟩, by decide⟩, by decide⟩
/-- Both clauses, on either side of the period, slow and fast. -/
theorem witness_Repeat : EvalDue .up { upRecord 2 1000 500 1501 with scanAr := true } ∧ combined Config.tc1 .up 1 = false
    ∧ asserted Config.tc1 .up 1 = true ∧ ((upRecord 2 1000 500 1501).sw.get .up).st = 2 ∧ Role.up ∈ Config.tc1.arRoles
    ∧ (¬2000 < elapsed 32 1501 500) ∧ 500 < elapsed 32 1501 1000 ∧ elapsed 32 1500 1000 ≤ 500
    ∧ 2000 < elapsed 32 2501 500 ∧ 100 < elapsed 32 2501 2400 ∧ elapsed 32 2501 2401 ≤ 100 :=
  ⟨⟨rfl, .inl ⟨rfl, rfl⟩, by decide⟩, by decide⟩
theorem witness_ReleaseIsImmediate : EvalDue .down (scanning 1) ∧ asserted (scanning 1).cfg .down 1 = false :=
  ⟨witness_EvalDue.2.1, by decide⟩
theorem witness_CombinedPress : EvalDue .down { scanning 1 with cfg := twoSwitch } ∧ twoSwitch.nPhys = 2 ∧ Role.down ≠ .mode
    ∧ (3 : Pins).getLsbD 0 = true ∧ (3 : Pins).getLsbD 1 = true :=
  ⟨⟨rfl, .inr (.inl ⟨rfl, rfl⟩), by decide⟩, by decide⟩
/-- Each clause: the timeout at equality, one before it, no timeout, out of place. -/
theorem witness_PendEndsTheIteration : (scanning 3).scanActive = true ∧ (scanning 3).scanIdx = 3 ∧ (100 : BitVec 16) ≠ 0
    ∧ (100#16).toNat ≤ elapsed 32 1100 1000 ∧ elapsed 32 1099 1000 < (100#16).toNat ∧ (scanning 3).scanTimeout = 0
    ∧ idle.scanActive = false ∧ (scanning 2).scanIdx ≠ 3 := by decide
theorem witness_ShortPressNeverActivates : idle.cfg.wellFormed = true ∧ ((scanning 0).sw.get .up).st = 0 ∧ activated .up (scanning 0) = false
    ∧ [Instr.eval 1, .tick, .eval 0].count .tick ≤ Config.tc1.debounceMs.toNat
    ∧ nextIs (runOps [.eval 1, .tick, .eval 0] (scanning 0)) (fun t => t.sw.up.st == 1) = true := by decide
theorem witness_HoldWithoutAutorepeat : ((upRecord 2 1000 1000 9000).sw.get .up).st = 2 ∧ (upRecord 2 1000 1000 9000).scanAr = false
    ∧ activated .up (upRecord 2 1000 1000 9000) = false ∧ asserted Config.tc1 .up 1 = true
    ∧ combined Config.tc1 .up 1 = false ∧ asserted twoSwitch .mode 3 = true ∧ combined twoSwitch .mode 3 = false
    ∧ throughout (fun _ u => !u.scanAr || !u.cfg.arRoles.contains .up) [.fstep 1, .tick] { upRecord 2 1000 1000 9000 with booted := true }
      = true
    ∧ nextIs (runOps [.fstep 1, .tick] { upRecord 2 1000 1000 9000 with booted := true })
      (fun t => t.sw.up.st == 2 && t.scanIdx == 1) = true := by decide
theorem witness_CombinedNeverActivates : activated .up { scanning 0 with cfg := twoSwitch } = false
    ∧ activated .down { scanning 0 with cfg := twoSwitch } = false ∧ pinsSampled (.eval 3) = some 3
    ∧ nextIs (runOps [.eval 3, .eval 3, .eval 3] { scanning 0 with cfg := twoSwitch }) (fun t => t.sw.mode.st == 1) = true := by decide
theorem witness_ActLightsTheIndicator : { idle with cfg := { Config.tc1 with extIndicator := true } }.cfg.extIndicator = true
    ∧ idle.flashArmed = false ∧ browsing.flashArmed = true := by decide
theorem witness_FlashingIsASquareWave : { Config.tc1 with flashToggleMs := 1 }.wellFormed = true
    ∧ nextIs (runOps (.fstart :: List.replicate 1 .tick) { idle with cfg := { Config.tc1 with flashToggleMs := 1 } })
      (fun t => t.intensity == 1) = true := by decide
theorem witness_BootLoadsTheConfiguration : State.reset.booted = false ∧ (inMode .normal).booted = true := by decide
/-- Each line of FSTEP. -/
theorem witness_FstepPerformsOneOperation : State.reset.booted = false ∧ { inMode .normal with scanDone := true }.scanDone = true
    ∧ browsing.booted = true ∧ browsing.scanDone = false ∧ browsing.scanActive = true ∧ browsing.scanIdx ≠ 3
    ∧ { browsing with scanIdx := 3 }.scanIdx = 3 ∧ (inMode .normal).scanActive = false ∧ (inMode .startupConfig).mode = 0
    ∧ (inMode .configChannel).mode = 1 ∧ (inMode .configDisplay).mode = 2 ∧ (inMode .normal).mode = 3 ∧ (inMode .mode2).mode = 4
    ∧ 5 ≤ { inMode .normal with mode := 5 }.mode.toNat := by decide

/-- The invariant holds in the middle of a flashing scan of Mode2, at a boundary value of the working copy. -/
theorem witness_Inv : Inv browsing where
  config := by decide
  codes := ⟨by decide, by decide, by decide⟩
  times := ⟨by decide, by decide, fun r => by cases r <;> decide, fun r => by cases r <;> decide⟩
  store := by decide
  patches := ⟨by decide, fun _ => by decide⟩
  flash := ⟨.inr (by decide), fun h => absurd h (by decide), fun _ => by decide, fun _ => by decide, fun _ => by decide⟩
  oneResult := fun h => absurd h (by decide)

theorem witness_EveryStepKeepsTheInvariant : Inv browsing ∧ nextIs (step browsing) (fun t => t.flashCnt == 2) = true :=
  ⟨witness_Inv, by decide⟩
theorem witness_UnscriptedRunIsNeverRefused : Inv { browsing with script := [] } ∧ { browsing with script := [] }.script = [] :=
  ⟨⟨witness_Inv.config, ⟨by decide, by decide, by decide⟩,
    ⟨by decide, by decide, fun r => by cases r <;> decide, fun r => by cases r <;> decide⟩, by decide, ⟨by decide, fun _ => by decide⟩,
    ⟨.inr (by decide), fun h => absurd h (by decide), fun _ => by decide, fun _ => by decide, fun _ => by decide⟩,
    fun h => absurd h (by decide)⟩, rfl⟩
/-- Each clause of EVENT: performed, before BOOT, during a scan, the first reserved mode, another mode's route. -/
theorem witness_EventPerformsTheSelectedRoute : CanPerform .normal (inMode .normal) ∧ State.reset.booted = false
    ∧ (scanning 0).scanActive = true ∧ 5 ≤ { inMode .normal with mode := 5 }.mode.toNat
    ∧ (inMode .normal).mode ≠ Mode.code .mode2 :=
  ⟨witness_performs .normal, by decide⟩
theorem witness_ConfigExit : Memory.wf [(0, 5), (4, 1)] = true
    ∧ CanPerform .configChannel { inMode .configChannel with nv := [(0, 5), (4, 1)] }
    ∧ CanPerform .configDisplay { inMode .configDisplay with nv := [(0, 5), (4, 1)] } :=
  ⟨by decide, ⟨rfl, rfl, rfl, by decide⟩, ⟨rfl, rfl, rfl, by decide⟩⟩
theorem witness_ConfigChannelStepsTheChannel : CanPerform .configChannel { inMode .configChannel with channel := 15 }
    ∧ (0 : BitVec 4).toNat = ((15 : BitVec 4).toNat + 1) % 16 ∧ (14 : BitVec 4).toNat = ((15 : BitVec 4).toNat + 15) % 16 :=
  ⟨⟨rfl, rfl, rfl, by decide⟩, by decide⟩
theorem witness_RangeChange : CanPerform .configChannel { inMode .configChannel with range := 4, patch := 900 }
    ∧ (0 : BitVec 3).toNat = ((4 : BitVec 3).toNat + 1) % 5
    ∧ (127 : BitVec 14).toNat = min (900 : BitVec 14).toNat (maxPatchOf Config.tc1 0).toNat :=
  ⟨⟨rfl, rfl, rfl, by decide⟩, by decide⟩
/-- Both routes at the ends of the range: up from the maximum, down from 0. -/
theorem witness_NormalSteps : CanPerform .normal { inMode .normal with patch := 127 } ∧ Memory.wf State.reset.nv = true
    ∧ (maxPatchOf Config.tc1 0).toNat = 127
    ∧ (0 : BitVec 14).toNat = (if 127 ≤ (127 : BitVec 14).toNat then 0 else 128)
    ∧ (127 : BitVec 14).toNat = (if (0 : BitVec 14).toNat = 0 then 127 else 0) :=
  ⟨⟨rfl, rfl, rfl, by decide⟩, by decide⟩
theorem witness_Mode2Steps : CanPerform .mode2 { inMode .mode2 with work := 127 }
    ∧ (0 : BitVec 14).toNat = (if (maxPatchOf Config.tc1 0).toNat ≤ 127 then 0 else 128)
    ∧ (126 : BitVec 14).toNat = (if (127 : BitVec 14).toNat = 0 then 127 else (127 : BitVec 14).toNat - 1)
    ∧ (127 : BitVec 14).toNat = (if (0 : BitVec 14).toNat = 0 then (maxPatchOf Config.tc1 0).toNat else 0)
    ∧ nextIs (exec .routeMode2Down { inMode .mode2 with work := 0 }) (fun t => t.work == 127) = true :=
  ⟨⟨rfl, rfl, rfl, by decide⟩, by decide⟩
theorem witness_Mode2Commit : CanPerform .mode2 { inMode .mode2 with nv := [(2, 1)] } ∧ Memory.wf [(2, 1)] = true :=
  ⟨⟨rfl, rfl, rfl, by decide⟩, by decide⟩
theorem witness_Mode2Browsing : (inMode .mode2).mode = 4 ∧ (inMode .mode2).booted = true
    ∧ throughout (fun i u => delivered i u != some .mode) [.event .up, .tick, .fstep 0, .fstep 1, .eval 0]
      { inMode .mode2 with scanDone := false } = true
    ∧ Instr.routeMode2Mode ∉ [Instr.event .up, .tick, .fstep 0, .fstep 1, .eval 0]
    ∧ nextIs (runOps [.event .up, .tick, .fstep 0, .fstep 1, .eval 0] (inMode .mode2))
      (fun t => t.work == 1 && t.scanIdx == 2) = true := by decide
/-- Both outcomes. -/
theorem witness_MidiSend : midiOutputs { Config.tc1 with bankSwitch := true } 5 130 0
      = [.action (.midiTx 0xB5), .action (.midiTx 0), .action (.midiTx 1), .action (.midiTx 0xC5), .action (.midiTx 2)]
    ∧ midiOutputs Config.tc1 0 0 0 = [.action (.midiTx 0xC0), .action (.midiTx 0)] ∧ Config.tc1.bankSwitch = false
    ∧ (1#3).toNat ≠ 0 := by decide
theorem witness_ByteWriteIsVerified : Memory.wf [(0, 5)] = true ∧ { idle with outcomes := [.ok] }.nextOutcome = .ok
    ∧ { idle with outcomes := [.fail 254] }.nextOutcome = .fail 254 := by decide
theorem witness_SecondSaveWritesNothing : Memory.wf idle.nv = true
    ∧ (configSave 5 1 true { idle with outcomes := [.ok, .ok, .ok] }).cfgErr = false := by decide
theorem witness_PowerOnSetsTheResetTable : idle.cfg.wellFormed = true
    ∧ nextIs (step { browsing with script := [.powerCycle ResetDraw.zero, .op 0x01000000] })
      (fun t => !t.booted && t.mode == 0 && t.script == [.op 0x01000000]) = true := by decide
/-- The step between the two writes: the new high byte 1 stands beside the old low byte 255. -/
theorem witness_PowerLoss :
    CanPerform .normal storing ∧ Memory.wf storing.nv = true ∧ storing.cfg.wellFormed = true ∧ storing.cfg.restoreLast = true
      ∧ storing.held = false ∧ storing.nextOutcome = .ok
      ∧ (256 : BitVec 14).toNat = (if (maxPatchOf storing.cfg storing.range).toNat ≤ storing.patch.toNat then 0
          else storing.patch.toNat + 1)
      ∧ (Memory.read storing.nv 2).toNat * 256 + (Memory.read storing.nv 3).toNat ≠ (256 : BitVec 14).toNat :=
  ⟨⟨rfl, rfl, rfl, by decide⟩, by decide⟩
theorem test_powerLoss_between_writes :
    nextIs (step { storing with script := [.powerLoss 0x31000001 9 ResetDraw.zero] })
      (fun t => t.nv == [(2, 1), (3, 255)] && !t.booted && t.trace.length == 9 && t.script == []) = true := by decide
theorem test_powerLoss_before_and_after :
    nextIs (step { storing with script := [.powerLoss 0x31000001 8 ResetDraw.zero] }) (fun t => t.nv == [(3, 255)]) = true
      ∧ nextIs (step { storing with script := [.powerLoss 0x31000001 10 ResetDraw.zero] }) (fun t => t.nv == [(2, 1)]) = true := by decide
theorem test_powerLoss_held_waits :
    nextIs (step { storing with held := true, delayCnt := 2, script := [.powerLoss 0x31000001 9 ResetDraw.zero] })
      (fun t => t.booted && t.script.length == 1) = true := by decide
theorem witness_PowerOnMeetsTheInvariant : twoSwitch.wellFormed = true ∧ Memory.wf [(0, 255), (4, 1)] = true := by decide
theorem witness_AttentionModes : AttentionInv { browsing with script := [] } ∧ Instr.tick ≠ .fstart ∧ Instr.tick ≠ .fstop
    ∧ nextIs (exec .tick { browsing with script := [] }) (fun t => t.flashArmed) = true :=
  ⟨⟨by decide, fun h => absurd h (by decide)⟩, by decide⟩
theorem witness_WriteRights : nextIs (exec .pend (scanning 3)) (fun t => t.ms == 1000) = true ∧ Instr.pend ≠ .tick := by decide
theorem witness_FailureIndicatorIsSticky : nextIs (exec .tick { idle with cfgErr := true }) (fun t => t.cfgErr) = true := by decide
theorem witness_ConfigurationModes : (inMode .startupConfig).mode = 0 ∧ (inMode .configChannel).mode = 1 ∧ (inMode .configDisplay).mode = 2
    ∧ nextIs (exec (.event .up) (inMode .configDisplay)) (fun t => t.zeroBased) = true := by decide

end Sys2Proof.Tests
end

/-! Loss of power inside an operation (20_memory.md R53, R55, R56): the outputs of every instruction replay what it did, and a loss
between the two writes of the last patch tears it. -/
namespace Sys2Proof.Machine

/-! ## Every instruction is replayed by its outputs -/

/-- One action after a silent change of other registers: the shape of most routes. -/
theorem replays_emit_of_silent {s s' : State} (a : Action) (h : (Output.action a).isStoreWrite = false) (hn : s'.nv = s.nv)
    (ho : s'.outcomes = s.outcomes) (hd : s'.drawIndex = s.drawIndex) (ht : s'.trace = s.trace) :
    Replays s (s'.emit a) [.action a] :=
  (replays_emit s' a h).before hn ho hd ht

/-- FSTOP, alone or in a route (43_flash.md R122). -/
theorem replays_stopFlash (s : State) : Replays s (stopFlash s) [.action (.dispSetIntensity s.cfg.intMax)] :=
  replays_emit_of_silent _ rfl rfl rfl rfl rfl

/-- The intensity refresh of PEND (42_debounce.md R110). -/
theorem replays_refreshIntensity (s : State) : ∃ out, Replays s (refreshIntensity s) out := by
  unfold refreshIntensity
  split
  · exact ⟨_, replays_emit s _ rfl⟩
  · exact ⟨_, replays_silent rfl rfl rfl rfl⟩

/-- PEND: the refresh, and at the timeout the kind raised (42_debounce.md R110). -/
theorem replays_endIteration (s : State) : ∃ out, Replays s (endIteration s) out := by
  obtain ⟨out, h⟩ := replays_refreshIntensity s
  unfold endIteration
  split
  · have k : Replays (refreshIntensity s) (endByTimeout (refreshIntensity s)) [.raised .noActivationWithinTimeout] :=
      (replays_outputs _ _ (by simp [Output.isStoreWrite])).after rfl rfl rfl rfl
    exact ⟨_, h.trans k⟩
  · exact ⟨_, h.after rfl rfl rfl rfl⟩

/-- BOOT reads the store and writes nothing (44_mode_fsm.md R131). -/
theorem replays_bootUp (s : State) : ∃ out, Replays s (bootUp s) out := by
  rw [bootUp_eq, List.append_assoc, List.append_assoc]
  refine ⟨_, (replays_outputs s _ ?_).after rfl rfl rfl rfl⟩
  split <;> simp [Output.isStoreWrite]

/-- Every route, whatever the mode and the event (44_mode_fsm.md R138 to R157). -/
theorem replays_performRoute (m : Mode) (ev : Event) (s : State) : ∃ out, Replays s (performRoute m ev s) out := by
  have hstep : ∀ p, ∃ out, Replays s (stepPatch p s) out := fun p => by
    obtain ⟨out, h⟩ := replays_sendPatch { s with patch := p }
    exact ⟨out, h.before rfl rfl rfl rfl⟩
  cases m <;> cases ev
  case startupConfig.none | startupConfig.up | startupConfig.down | startupConfig.mode | configChannel.up | configChannel.down
      | configChannel.mode | configDisplay.up | configDisplay.down | mode2.up | mode2.down =>
    exact ⟨_, replays_emit_of_silent _ rfl rfl rfl rfl rfl⟩
  case configChannel.none | configDisplay.none | configDisplay.mode => exact replays_configExit s
  case normal.none | normal.mode | mode2.none => exact ⟨_, replays_silent rfl rfl rfl rfl⟩
  case normal.up | normal.down => exact hstep _
  case mode2.mode =>
    obtain ⟨out, h⟩ := hstep s.work
    have k : Replays s (stopFlash (stepPatch s.work s)) _ := h.trans (replays_stopFlash _)
    exact ⟨_, k.after rfl rfl rfl rfl⟩

/-- Every instruction makes outputs that replay it (00_scope.md R9, 20_memory.md R53). -/
theorem exec_replays {i : Instr} {s t : State} (h : exec i s = .next t) : ∃ out, Replays s t out := by
  cases exec_effect h
  case tick =>
    rw [tickActivity_frame, tickFlash_frame]
    exact ⟨_, replays_silent rfl rfl rfl rfl⟩
  case dload | dwait | sbegin | fstart => exact ⟨_, replays_silent rfl rfl rfl rfl⟩
  case eval =>
    rw [evalSwitch_frame]
    exact ⟨_, replays_silent rfl rfl rfl rfl⟩
  case pend => exact replays_endIteration s
  case fstop => exact ⟨_, replays_stopFlash s⟩
  case act =>
    rw [startActivity_eq]
    exact ⟨_, replays_silent rfl rfl rfl rfl⟩
  case boot => exact replays_bootUp s
  case event m ev _ _ =>
    obtain ⟨out, hr⟩ := replays_performRoute m ev { s with scanDone := false }
    exact ⟨out, hr.before rfl rfl rfl rfl⟩
  case route m ev _ _ => exact replays_performRoute m ev s

/-- What an instruction adds to the trace determines the outputs, so it is those that replay it. -/
theorem replays_of_exec {i : Instr} {s t : State} {out : List Output} (h : exec i s = .next t) (ht : t.trace = s.trace ++ out) :
    Replays s t out := by
  obtain ⟨out', hr⟩ := exec_replays h
  have e : out' = out := List.append_cancel_left (hr.trace.symm.trans ht)
  exact e ▸ hr

/-! ## The step that loses power -/

/-- The outputs of an operation are what it added to the trace. -/
theorem outputsSince_eq {s t : State} {out : List Output} (h : t.trace = s.trace ++ out) : outputsSince s t = out := by
  simp [outputsSince, h]

/-- The step that takes a loss of power, MAIN not held: the first `k` outputs are carried out, then power comes on
(20_memory.md R56). -/
theorem step_powerLoss {s t : State} {w : OpWord} {k : Nat} {d : ResetDraw} {rest : List Stimulus} {i : Instr} {out : List Output}
    (hc : s.cfg.wellFormed = true) (hs : s.script = .powerLoss w k d :: rest) (hh : s.held = false) (hw : decodeOp w = .ok i)
    (he : exec i { s with script := rest } = .next t) (ht : t.trace = s.trace ++ out) :
    step s = .next ((({ s with script := rest } : State).carryOutAll (out.take k)).powerCycle d) := by
  have hx : s.nextStimulus = .powerLoss w k d := by simp [State.nextStimulus, hs, hh]
  have hf : s.afterFetch = { s with script := rest } := by simp [State.afterFetch, hs, hh]
  have ho : outputsSince { s with script := rest } t = out := outputsSince_eq ht
  simp only [step, hc, if_true, hx, hf, perform, runWord, hw, he, mapNext, losePower, ho]

/-! ## The torn last patch -/

/-- Power lost right after the first byte write of an operation, the outcome being that the byte is taken: that byte of the store is
new, and nothing else in it (20_memory.md R53). -/
theorem nv_carryOutAll_firstWrite (s : State) (before : List Output) (o : NvOffset) (v : Byte)
    (hq : ∀ x ∈ before, x.isStoreWrite = false) (hok : s.nextOutcome = .ok) :
    (s.carryOutAll (before ++ [.action (.storeWrite o.addr v)])).nv = Memory.write s.nv o.addr v := by
  have hb : s.byteWritten v = v := by simp [State.byteWritten, hok, byteLeft]
  rw [carryOutAll_append, carryOutAll_quiet s before hq, carryOutAll_cons, carryOut_storeWrite, carryOutAll_nil]
  exact congrArg (Memory.write s.nv o.addr) hb

/-- The bytes of MidiSend and the activity of SendPatch (44_mode_fsm.md R136). -/
theorem replays_midiSend_startActivity (s : State) :
    Replays s (startActivity (midiSend s.channel s.patch s.range s))
      (midiOutputs s.cfg s.channel.toNat s.patch.toNat s.range.toNat) := by
  rw [midiSend_eq, startActivity_eq]
  exact (replays_outputs s _ (midiOutputs_quiet _ _ _ _)).after rfl rfl rfl rfl

/-- SendPatch of a number that is not the stored one: its first store write is the high byte (45_collaborators.md R180). -/
theorem replays_sendPatch_high (s : State) (hr : s.cfg.restoreLast = true)
    (hne : (Memory.read s.nv 2).toNat * 256 + (Memory.read s.nv 3).toNat ≠ s.patch.toNat) :
    ∃ before later, (∀ x ∈ before, x.isStoreWrite = false)
      ∧ Replays s (sendPatch s) (before ++ [.action (.storeWrite 2 (patchHi s.patch))] ++ later) := by
  have hm := replays_midiSend_startActivity s
  have hn : (startActivity (midiSend s.channel s.patch s.range s)).nv = s.nv := by rw [startActivity_eq, midiSend_nv]
  unfold sendPatch
  dsimp only
  generalize startActivity (midiSend s.channel s.patch s.range s) = u at hm hn ⊢
  have hd : (storedLast u != s.patch.setWidth 16) = true :=
    Bool.of_not_eq_false fun h => hne (hn ▸ (storedLast_eq u s.patch).mp h)
  obtain ⟨rest, hl⟩ := replays_writeLast s.patch u
  rw [if_pos hr, storeLast, if_pos hd]
  have h := (hm.trans hl).trans (replays_emit _ (.dispShowPatch (shown s.zeroBased s.patch)) rfl)
  refine ⟨midiOutputs s.cfg s.channel.toNat s.patch.toNat s.range.toNat
      ++ [.action (.storeRead 2), .action (.storeRead 3), .action .storeUnlock],
    rest ++ [.action (.dispShowPatch (shown s.zeroBased s.patch))], ?_, by simpa using h⟩
  exact List.forall_mem_append.mpr ⟨midiOutputs_quiet _ _ _ _, by simp [Output.isStoreWrite]⟩

/-- `inc(p)` in numbers (44_mode_fsm.md R135). -/
theorem incPatch_toNat (c : Config) (r : BitVec 3) (p : BitVec 14) :
    (incPatch c r p).toNat = if (maxPatchOf c r).toNat ≤ p.toNat then 0 else p.toNat + 1 := by
  unfold incPatch
  split
  · rfl
  · bv_omega

/-- `dec(p)` in numbers (44_mode_fsm.md R135). -/
theorem decPatch_toNat (c : Config) (r : BitVec 3) (p : BitVec 14) :
    (decPatch c r p).toNat = if p.toNat = 0 then (maxPatchOf c r).toNat else p.toNat - 1 := by
  unfold decPatch
  by_cases h : p = 0
  · simp [h]
  · have h0 : p.toNat ≠ 0 := fun e => h (BitVec.eq_of_toNat_eq e)
    rw [if_neg h, if_neg h0]
    bv_omega

/-- EVENT is performed where it may be (44_mode_fsm.md R134). -/
theorem CanPerform.execEvent_eq {m : Mode} {s : State} (h : CanPerform m s) (ev : Event) : execEvent ev s = .next (deliver m ev s) := by
  have hm : Mode.ofCode s.mode = some m := Mode.ofCode_eq_some.mpr h.mode
  simp [execEvent, h.booted, h.idle, hm, rangeLegal, h.range]

/-- EVENT UP and EVENT DOWN in Normal send the next and the previous patch (44_mode_fsm.md R151, R152). -/
theorem exec_event_sends {s : State} {w : OpWord} {p : BitVec 14} (hp : CanPerform .normal s)
    (h : (w = 0x31000001 ∧ p = incPatch s.cfg s.range s.patch) ∨ (w = 0x31000002 ∧ p = decPatch s.cfg s.range s.patch)) :
    ∃ ev, decodeOp w = .ok (.event ev) ∧ exec (.event ev) s = .next (sendPatch { s with scanDone := false, patch := p }) := by
  rcases h with ⟨rfl, rfl⟩ | ⟨rfl, rfl⟩
  · exact ⟨.up, rfl, hp.execEvent_eq .up⟩
  · exact ⟨.down, rfl, hp.execEvent_eq .down⟩

/-- Power lost after the high byte of the last patch: the store holds the new high byte and is otherwise as it was
(20_memory.md R55, R56). -/
theorem step_powerLoss_tears {s : State} {w : OpWord} {p : BitVec 14} (d : ResetDraw) (rest : List Stimulus)
    (hc : s.cfg.wellFormed = true) (hr : s.cfg.restoreLast = true) (hh : s.held = false) (hp : CanPerform .normal s)
    (hok : s.nextOutcome = .ok)
    (hw : (w = 0x31000001 ∧ p = incPatch s.cfg s.range s.patch) ∨ (w = 0x31000002 ∧ p = decPatch s.cfg s.range s.patch))
    (hne : (Memory.read s.nv 2).toNat * 256 + (Memory.read s.nv 3).toNat ≠ p.toNat) :
    ∃ k t, step { s with script := .powerLoss w k d :: rest } = .next t ∧ t.booted = false
      ∧ t.nv = Memory.write s.nv 2 (patchHi p) := by
  have hpu : CanPerform .normal { s with script := rest } := ⟨hp.booted, hp.idle, hp.mode, hp.range⟩
  obtain ⟨ev, hdec, hexec⟩ := exec_event_sends hpu hw
  obtain ⟨before, later, hq, hv⟩ := replays_sendPatch_high { s with script := rest, scanDone := false, patch := p } hr hne
  refine ⟨(before ++ [Output.action (.storeWrite 2 (patchHi p))]).length, _, step_powerLoss hc rfl hh hdec hexec hv.trace, rfl, ?_⟩
  rw [List.take_left]
  exact nv_carryOutAll_firstWrite { s with script := rest } before .lastHi (patchHi p) hq hok

/-- Settles O60: the step by `step_powerLoss`, the replay of every instruction by `replays_of_exec`, the torn patch by
`step_powerLoss_tears`. -/
theorem powerLossLeavesWhatWasDone : Obligations.PowerLossLeavesWhatWasDone := by
  refine ⟨?_, fun i s t out he ht => (replays_of_exec he ht).replay, ?_⟩
  · rintro s u t w k d rest i out hc hs hh hw rfl he ht
    exact step_powerLoss hc hs hh hw he ht
  · rintro s w p max d rest hc hr hh hp hwf hok rfl hw hne
    have hw' : (w = 0x31000001 ∧ p = incPatch s.cfg s.range s.patch)
        ∨ (w = 0x31000002 ∧ p = decPatch s.cfg s.range s.patch) := by
      simpa only [← incPatch_toNat, ← decPatch_toNat, BitVec.toNat_inj] using hw
    obtain ⟨k, t, hstep, hboot, hnv⟩ := step_powerLoss_tears d rest hc hr hh hp hok hw' hne
    refine ⟨k, t, hstep, hboot, ?_, fun off hoff => ?_⟩
    · rw [hnv, Memory.read_write_same _ _ _ hwf, (patchBytes_eq p).1]
    · rw [hnv, Memory.read_write_other _ _ _ _ hoff]

end Sys2Proof.Machine

/-! EVAL of a switch that reads asserted (42_debounce.md R103 to R106, R108): the dispatch over the switch's state, the strict tests of
CONFIRM and REPEAT in numbers, and the cases PRESS, CONFIRM, HELD and REPEAT of an evaluation that is due. -/
namespace Sys2Proof.Machine

/-! ## The flags and the event, in the statements' terms -/

/-- The event of each switch, spelled out (30_encoding.md R76). -/
theorem Role.event_eq_iff (r : Role) (ev : Event) :
    r.event = ev ↔ (r = .up ∧ ev = .up) ∨ (r = .down ∧ ev = .down) ∨ (r = .mode ∧ ev = .mode) := by
  cases r <;> simp [Role.event, eq_comm]

theorem exceeds_iff (width now t : Nat) (threshold : BitVec 16) :
    exceeds width now t threshold = true ↔ threshold.toNat < elapsed width now t := by
  simp [exceeds]

theorem repeats_iff (c : Config) (scanAr : Bool) (r : Role) : repeats c scanAr r = true ↔ scanAr = true ∧ r ∈ c.arRoles := by
  simp [repeats]

/-- The acceleration test only raises the accumulator (42_debounce.md R106). -/
theorem accelerated_eq (c : Config) (now firstDown : Nat) (acc : Bool) :
    accelerated c now firstDown acc = if c.accelMs.toNat < elapsed c.width now firstDown then true else acc := by
  unfold accelerated
  split
  case isTrue h => rw [(exceeds_iff ..).mpr h, Bool.true_or]
  case isFalse h => rw [Bool.eq_false_iff.mpr (mt (exceeds_iff ..).mp h), Bool.false_or]

/-! ## The two cases that test a time -/

theorem evalConfirm_eq (r : Role) (now : Nat) (s : State) :
    evalConfirm r now s =
      if s.cfg.debounceMs.toNat < elapsed s.cfg.width now (s.sw.get r).downSince then
        qualify r (s.setSwitch r { s.sw.get r with st := 2 })
      else advance s := by
  simp only [evalConfirm, exceeds_iff, SwitchState.code]

/-- The period tested is that of the accumulator just written (42_debounce.md R106). -/
theorem evalRepeat_eq (r : Role) (now : Nat) (s : State) {acc : Bool}
    (hacc : acc = accelerated s.cfg now (s.sw.get r).firstDown s.periodAcc) :
    evalRepeat r now s =
      if (periodOf s.cfg acc).toNat < elapsed s.cfg.width now (s.sw.get r).downSince then
        qualify r ({ s with periodAcc := acc }.setSwitch r { s.sw.get r with downSince := now })
      else advance { s with periodAcc := acc } := by
  subst hacc
  simp only [evalRepeat, exceeds_iff]

/-! ## The dispatch over the state of an asserted switch -/

theorem evalSwitch_of_asserted {r : Role} {pins : Pins} {s : State} (now : Nat) (hc : combined s.cfg r pins = false)
    (ha : asserted s.cfg r pins = true) :
    evalSwitch r now pins s =
      if (s.sw.get r).st = 0 then evalPress r now s
      else if (s.sw.get r).st = 1 then evalConfirm r now s
      else if repeats s.cfg s.scanAr r then evalRepeat r now s
      else evalHeld s := by
  have hpin : ¬ (!asserted s.cfg r pins) = true := by simp [ha]
  rw [evalSwitch, if_neg (by simp [hc]), if_neg hpin]
  rfl

theorem EvalDue.exec_released {r : Role} {pins : Pins} {s : State} (hd : EvalDue r s) (hc : combined s.cfg r pins = false)
    (ha : asserted s.cfg r pins = true) (hst : (s.sw.get r).st = 0) : exec (.eval pins) s = .next (evalPress r s.ms s) :=
  calc
    exec (.eval pins) s = .next (evalSwitch r s.ms pins s) := hd.exec_eq pins
    _ = .next (evalPress r s.ms s) := by rw [evalSwitch_of_asserted _ hc ha, if_pos hst]

theorem EvalDue.exec_unconfirmed {r : Role} {pins : Pins} {s : State} (hd : EvalDue r s) (hc : combined s.cfg r pins = false)
    (ha : asserted s.cfg r pins = true) (hst : (s.sw.get r).st = 1) : exec (.eval pins) s = .next (evalConfirm r s.ms s) :=
  calc
    exec (.eval pins) s = .next (evalSwitch r s.ms pins s) := hd.exec_eq pins
    _ = .next (evalConfirm r s.ms s) := by simp [evalSwitch_of_asserted _ hc ha, hst]

theorem EvalDue.exec_confirmed {r : Role} {pins : Pins} {s : State} (hd : EvalDue r s) (hc : combined s.cfg r pins = false)
    (ha : asserted s.cfg r pins = true) (hst : (s.sw.get r).st = 2) :
    exec (.eval pins) s = .next (if repeats s.cfg s.scanAr r then evalRepeat r s.ms s else evalHeld s) :=
  calc
    exec (.eval pins) s = .next (evalSwitch r s.ms pins s) := hd.exec_eq pins
    _ = .next (if repeats s.cfg s.scanAr r then evalRepeat r s.ms s else evalHeld s) := by
      simp [evalSwitch_of_asserted _ hc ha, hst]

/-! ## The obligations -/

/-- Settles O18, by the dispatch of a released switch. -/
theorem pressStartsTheDebounce : Obligations.PressStartsTheDebounce :=
  fun _ _ _ hd hc ha hst => hd.exec_released hc ha hst

/-- Settles O19, by the dispatch of a PressedUnconfirmed switch and the strict test `evalConfirm_eq` on either side of the
threshold. -/
theorem confirmNeedsMoreThanTheThreshold : Obligations.ConfirmNeedsMoreThanTheThreshold := by
  intro r ev pins s hd hc ha hst hev
  obtain rfl := (Role.event_eq_iff r ev).mpr hev
  rw [hd.exec_unconfirmed hc ha hst, evalConfirm_eq]
  constructor
  · intro hlt
    rw [if_pos hlt]
    rfl
  · intro hle
    rw [if_neg hle.not_gt]
    rfl

/-- Settles O20: where autorepeat does not apply, the dispatch of a confirmed switch leaves case HELD. -/
theorem heldSwitchOnlyAdvances : Obligations.HeldSwitchOnlyAdvances := by
  intro r pins s hd hc ha hst hno
  have hrep : ¬ repeats s.cfg s.scanAr r = true := by
    rw [repeats_iff]
    rintro ⟨har, hmem⟩
    rcases hno with hoff | hout
    · simp [har] at hoff
    · exact hout hmem
  rw [hd.exec_confirmed hc ha hst, if_neg hrep]
  rfl

/-- Settles O21: the accumulator by `accelerated_eq`, then the strict test `evalRepeat_eq` on either side of its period. -/
theorem repeatFollowsTheAcceleratedPeriod : Obligations.RepeatFollowsTheAcceleratedPeriod := by
  intro r ev pins s acc period hd hc ha hst har hmem hev hacc hperiod
  obtain rfl := (Role.event_eq_iff r ev).mpr hev
  have hperiodOf : period = periodOf s.cfg acc := hperiod
  rw [← accelerated_eq] at hacc
  rw [hd.exec_confirmed hc ha hst, if_pos ((repeats_iff ..).mpr ⟨har, hmem⟩), evalRepeat_eq r s.ms s hacc, ← hperiodOf]
  constructor
  · intro hlt
    rw [if_pos hlt]
    rfl
  · intro hle
    rw [if_neg hle.not_gt]
    rfl

end Sys2Proof.Machine

/-! The UP and DOWN routes that step one register and show it (44_mode_fsm.md R143, R144, R155, R156): a route's constructor where the
route may be performed, and the stepped register in the statements' numbers. -/
namespace Sys2Proof.Machine

/-- A route taken by itself is performed where EVENT could perform it (30_encoding.md R79, 44_mode_fsm.md R134). -/
theorem CanPerform.exec_ofRoute {m : Mode} {s : State} (h : CanPerform m s) (ev : Event) :
    exec (Instr.ofRoute m ev) s = .next (performRoute m ev s) := by
  have hsel : routeSelected m s = true := by simp [routeSelected, h.booted, h.idle, h.mode]
  have hrange : rangeLegal s.range = true := decide_eq_true h.range
  rw [Machine.exec_ofRoute, whenSelected, if_pos hsel, if_pos hrange]

/-- The candidate of Mode2 steps: the working copy and one display action (44_mode_fsm.md R155, R156). -/
theorem stepWork_eq (w : BitVec 14) (s : State) :
    stepWork w s = { s with
      work := w
      trace := s.trace ++ [.action (.dispShowPatch (shownNumber s.zeroBased w.toNat))] } := rfl

/-- Settles O38: on four bits the sums modulo 16 of the statement are the additions of 1 and of 15. -/
theorem configChannelStepsTheChannel : Obligations.ConfigChannelStepsTheChannel := by
  refine ⟨rfl, rfl, fun s up down hp hup hdown => ?_⟩
  have hUp : up = s.channel + 1 := by bv_omega
  have hDown : down = s.channel + 15 := by bv_omega
  subst hUp hDown
  exact ⟨hp.exec_ofRoute .up, hp.exec_ofRoute .down⟩

/-- Settles O44: the wrap rule by `incPatch_toNat` and `decPatch_toNat`, then the route's effect by `stepWork_eq`. -/
theorem mode2StepsTheWorkingCopyOnly : Obligations.Mode2StepsTheWorkingCopyOnly := by
  refine ⟨rfl, rfl, ?_⟩
  rintro s up down max hp rfl hup hdown
  have hUp : up = incPatch s.cfg s.range s.work := BitVec.eq_of_toNat_eq (hup.trans (incPatch_toNat ..).symm)
  have hDown : down = decPatch s.cfg s.range s.work := BitVec.eq_of_toNat_eq (hdown.trans (decPatch_toNat ..).symm)
  rw [← stepWork_eq, ← stepWork_eq, hUp, hDown]
  exact ⟨hp.exec_ofRoute .up, hp.exec_ofRoute .down⟩

end Sys2Proof.Machine

/-! MidiSend with any arguments (45_collaborators.md R171): the routes send the registers, and the send reads none of them. -/
namespace Sys2Proof.Machine

/-- The bytes depend on the configuration and the arguments alone, so a send of any arguments puts into the trace what `midiSend_eq`
says of a state that holds them in its registers. -/
theorem midiSend_eq_outputs (c : BitVec 4) (p : BitVec 14) (r : BitVec 3) (s : State) :
    midiSend c p r s = { s with trace := s.trace ++ midiOutputs s.cfg c.toNat p.toNat r.toNat } := by
  have htrace : (midiSend c p r s).trace = s.trace ++ midiOutputs s.cfg c.toNat p.toNat r.toNat :=
    congrArg State.trace (midiSend_eq { s with channel := c, patch := p, range := r })
  rw [← htrace]
  rfl

/-- A send is five actions with the bank bytes and two without them (45_collaborators.md R171). -/
theorem length_midiOutputs (c : Config) (channel p range : Nat) :
    (midiOutputs c channel p range).length = if c.bankSwitch = true ∨ range ≠ 0 then 5 else 2 := by
  unfold midiOutputs
  split <;> rfl

/-- Settles O47: the actions by `midiSend_eq_outputs`, their number by `length_midiOutputs`, the bank byte by the patch's 14 bits. -/
theorem midiSendEmitsTheByteSequence : Obligations.MidiSendEmitsTheByteSequence := by
  rintro s channel patch range _ rfl
  refine ⟨midiSend_eq_outputs channel patch range s, fun hbank => ?_, fun hoff hrange => ?_, ?_, Nat.mod_lt _ (by decide)⟩
  · rw [length_midiOutputs, if_pos hbank]
  · rw [length_midiOutputs, if_neg (by simp [hoff, hrange])]
  · exact Nat.div_lt_of_lt_mul patch.isLt

end Sys2Proof.Machine

/-! The two alphabets of words (30_encoding.md R71 to R81): the fields of an operation word, what each format accepts, and the opcode
map's rows as statements about those fields. -/
namespace Sys2Proof

/-! ## A word and its fields -/

/-- Two fields side by side are one field (30_encoding.md R71). -/
theorem extract_join {n : Nat} (w : BitVec n) {hi lo : Nat} (len len' : Nat) (h : hi = lo + len') :
    w.extractLsb' hi len ++ w.extractLsb' lo len' = w.extractLsb' lo (len + len') :=
  BitVec.extractLsb'_append_extractLsb'_eq_extractLsb' h

/-- Format N's two fields make up the word (30_encoding.md R72). -/
theorem word_eq_formatN (w : OpWord) : w = opField w ++ w.extractLsb' 0 24 := by
  rw [opField, extract_join w 8 24 rfl, BitVec.extractLsb'_eq_self]

/-- Format D's three fields make up the word (30_encoding.md R72). -/
theorem word_eq_formatD (w : OpWord) : w = opField w ++ w.extractLsb' 16 8 ++ lowHalf w := by
  rw [opField, lowHalf, extract_join w 8 8 rfl, extract_join w 16 16 rfl, BitVec.extractLsb'_eq_self]

theorem ofBool_arField (w : OpWord) : BitVec.ofBool (arField w) = w.extractLsb' 16 1 := by
  refine BitVec.eq_of_getLsbD_eq fun i hi => ?_
  obtain rfl : i = 0 := by omega
  simp [arField]

/-- Format S's four fields make up the word (30_encoding.md R72). -/
theorem word_eq_formatS (w : OpWord) : w = opField w ++ w.extractLsb' 17 7 ++ BitVec.ofBool (arField w) ++ lowHalf w := by
  rw [ofBool_arField, opField, lowHalf, extract_join w 8 7 rfl, extract_join w 15 1 rfl, extract_join w 16 16 rfl,
    BitVec.extractLsb'_eq_self]

/-- Format P's three fields make up the word (30_encoding.md R72). -/
theorem word_eq_formatP (w : OpWord) : w = opField w ++ w.extractLsb' 3 21 ++ pinsField w := by
  rw [opField, pinsField, extract_join w 8 21 rfl, extract_join w 29 3 rfl, BitVec.extractLsb'_eq_self]

/-- Format E's three fields make up the word (30_encoding.md R72). -/
theorem word_eq_formatE (w : OpWord) : w = opField w ++ w.extractLsb' 2 22 ++ evField w := by
  rw [opField, evField, extract_join w 8 22 rfl, extract_join w 30 2 rfl, BitVec.extractLsb'_eq_self]

/-! ## What a format accepts -/

/-- Each format answers one instruction where its reserved bits are 0, and an error elsewhere (30_encoding.md R72, R81). -/
theorem format_ok {c : Prop} [Decidable c] {e : DecodeError} {i j : Instr} (h : (if c then .ok i else .error e) = Except.ok j) :
    c ∧ j = i := by
  split at h
  case isTrue hc => cases h; exact ⟨hc, rfl⟩
  case isFalse => cases h

/-- All four codes are events, so the code of the event is the field (30_encoding.md R76). -/
theorem Event.code_ofCode (c : BitVec 2) : (Event.ofCode c).code = c := by revert c; decide

theorem formatN_encode {w : OpWord} {op : BitVec 8} {i j : Instr} (hop : opField w = op) (he : encode i = .op (op ++ 0#24))
    (h : formatN w i = .ok j) : encode j = .op w := by
  obtain ⟨hz, rfl⟩ : w.extractLsb' 0 24 = 0#24 ∧ j = i := format_ok h
  rw [he, ← hop, ← hz, ← word_eq_formatN]

theorem formatD_encode {w : OpWord} {j : Instr} (hop : opField w = 0x02#8) (h : formatD w = .ok j) : encode j = .op w := by
  obtain ⟨hz, rfl⟩ : w.extractLsb' 16 8 = 0#8 ∧ j = .dload (lowHalf w) := format_ok h
  rw [encode, ← hop, ← hz, ← word_eq_formatD]

theorem formatS_encode {w : OpWord} {j : Instr} (hop : opField w = 0x10#8) (h : formatS w = .ok j) : encode j = .op w := by
  obtain ⟨hz, rfl⟩ : w.extractLsb' 17 7 = 0#7 ∧ j = .sbegin (lowHalf w) (arField w) := format_ok h
  rw [encode, ← hop, ← hz, ← word_eq_formatS]

theorem formatPEval_encode {w : OpWord} {j : Instr} (hop : opField w = 0x11#8) (h : formatPEval w = .ok j) : encode j = .op w := by
  obtain ⟨hz, rfl⟩ : w.extractLsb' 3 21 = 0#21 ∧ j = .eval (pinsField w) := format_ok h
  rw [encode, ← hop, ← hz, ← word_eq_formatP]

theorem formatPFstep_encode {w : OpWord} {j : Instr} (hop : opField w = 0x32#8) (h : formatPFstep w = .ok j) : encode j = .op w := by
  obtain ⟨hz, rfl⟩ : w.extractLsb' 3 21 = 0#21 ∧ j = .fstep (pinsField w) := format_ok h
  rw [encode, ← hop, ← hz, ← word_eq_formatP]

theorem formatE_encode {w : OpWord} {j : Instr} (hop : opField w = 0x31#8) (h : formatE w = .ok j) : encode j = .op w := by
  obtain ⟨hz, rfl⟩ : w.extractLsb' 2 22 = 0#22 ∧ j = .event (Event.ofCode (evField w)) := format_ok h
  rw [encode, Event.code_ofCode, ← hop, ← hz, ← word_eq_formatE]

/-! ## The decoders and the encoder -/

theorem ite_eq_ok {c : Prop} [Decidable c] {a b : Except DecodeError Instr} {i : Instr} (h : (if c then a else b) = .ok i) :
    (c ∧ a = .ok i) ∨ b = .ok i := by
  split at h
  · exact .inl ⟨‹c›, h⟩
  · exact .inr h

/-- An operation word that decodes is the encoding of what it decodes to (30_encoding.md R72, R81). -/
theorem encode_of_decodeOp {w : OpWord} {i : Instr} (h : decodeOp w = .ok i) : encode i = .op w := by
  rcases ite_eq_ok h with ⟨hop, h⟩ | h
  · exact formatN_encode hop (by decide) h
  rcases ite_eq_ok h with ⟨hop, h⟩ | h
  · exact formatD_encode hop h
  rcases ite_eq_ok h with ⟨hop, h⟩ | h
  · exact formatN_encode hop (by decide) h
  rcases ite_eq_ok h with ⟨hop, h⟩ | h
  · exact formatS_encode hop h
  rcases ite_eq_ok h with ⟨hop, h⟩ | h
  · exact formatPEval_encode hop h
  iterate 5
    rcases ite_eq_ok h with ⟨hop, h⟩ | h
    · exact formatN_encode hop (by decide) h
  rcases ite_eq_ok h with ⟨hop, h⟩ | h
  · exact formatE_encode hop h
  rcases ite_eq_ok h with ⟨hop, h⟩ | h
  · exact formatPFstep_encode hop h
  · cases h

/-- The words of the operations are operation words, those of the routes route words (30_encoding.md R70, R71, R79). -/
theorem isOperation_of_encode {i : Instr} {w : OpWord} (h : encode i = .op w) : i.isOperation = true := by
  rcases Machine.Instr.operation_or_route i with ho | ⟨m, ev, rfl⟩
  · exact ho
  · cases m <;> cases ev <;> cases h

theorem encode_ofRoute (m : Mode) (ev : Event) : encode (Instr.ofRoute m ev) = .route (routeWord m.code ev) := by
  cases m <;> cases ev <;> rfl

theorem isOperation_ofRoute (m : Mode) (ev : Event) : (Instr.ofRoute m ev).isOperation = false := by
  cases m <;> cases ev <;> rfl

/-- A route word whose mode decodes is the route word of that mode and its event (30_encoding.md R79). -/
theorem eq_routeWord {r : RouteWord} {m : Mode} (hm : Mode.ofCode (r.extractLsb' 2 3) = some m) :
    r = routeWord m.code (Event.ofCode (r.extractLsb' 0 2)) := by
  rw [routeWord, Event.code_ofCode, ← Machine.Mode.ofCode_eq_some.mp hm, extract_join r 3 2 rfl, BitVec.extractLsb'_eq_self]

/-- A route word that decodes is the encoding of its route (30_encoding.md R79). -/
theorem encode_of_decodeRoute {r : RouteWord} {i : Instr} (h : decodeRoute r = .ok i) :
    encode i = .route r ∧ i.isOperation = false := by
  unfold decodeRoute at h
  split at h
  case h_2 => cases h
  case h_1 m hm =>
    cases h
    exact ⟨by rw [encode_ofRoute, ← eq_routeWord hm], isOperation_ofRoute ..⟩

theorem decodeRoute_routeWord (m : Mode) (ev : Event) : decodeRoute (routeWord m.code ev) = .ok (Instr.ofRoute m ev) := by
  cases m <;> cases ev <;> rfl

/-- A legal format under DLOAD's `op` decodes (30_encoding.md R80). -/
theorem decodeOp_dload {w : OpWord} (hop : opField w = 0x02#8) (hres : w.extractLsb' 16 8 = 0#8) :
    decodeOp w = .ok (.dload (lowHalf w)) := by
  simp [decodeOp, hop, formatD, hres]

/-- A legal format under SBEGIN's `op` decodes (30_encoding.md R80). -/
theorem decodeOp_sbegin {w : OpWord} (hop : opField w = 0x10#8) (hres : w.extractLsb' 17 7 = 0#7) :
    decodeOp w = .ok (.sbegin (lowHalf w) (arField w)) := by
  simp [decodeOp, hop, formatS, hres]

/-- A legal format under EVAL's `op` decodes (30_encoding.md R80). -/
theorem decodeOp_eval {w : OpWord} (hop : opField w = 0x11#8) (hres : w.extractLsb' 3 21 = 0#21) :
    decodeOp w = .ok (.eval (pinsField w)) := by
  simp [decodeOp, hop, formatPEval, hres]

/-- A legal format under EVENT's `op` decodes (30_encoding.md R80). -/
theorem decodeOp_event {w : OpWord} (hop : opField w = 0x31#8) (hres : w.extractLsb' 2 22 = 0#22) :
    decodeOp w = .ok (.event (Event.ofCode (evField w))) := by
  simp [decodeOp, hop, formatE, hres]

/-- A legal format under FSTEP's `op` decodes (30_encoding.md R80). -/
theorem decodeOp_fstep {w : OpWord} (hop : opField w = 0x32#8) (hres : w.extractLsb' 3 21 = 0#21) :
    decodeOp w = .ok (.fstep (pinsField w)) := by
  simp [decodeOp, hop, formatPFstep, hres]

/-- `n` is read back from DLOAD's word, its reserved bits being 0 (30_encoding.md R72, R73). -/
theorem decodeOp_encode_dload (n : BitVec 16) : decodeOp (0x02#8 ++ 0#8 ++ n) = .ok (.dload n) := by
  have hop : opField (0x02#8 ++ 0#8 ++ n) = 0x02#8 := by
    rw [opField, BitVec.extractLsb'_append_eq_of_le (by decide)]; rfl
  have hres : (0x02#8 ++ 0#8 ++ n).extractLsb' 16 8 = 0#8 := by
    rw [BitVec.extractLsb'_append_eq_of_le (by decide)]; rfl
  rw [decodeOp_dload hop hres, lowHalf, BitVec.extractLsb'_append_eq_right]

/-- `to` and `ar` are read back from SBEGIN's word, its reserved bits being 0 (30_encoding.md R72, R73). -/
theorem decodeOp_encode_sbegin (n : BitVec 16) (ar : Bool) :
    decodeOp (0x10#8 ++ 0#7 ++ BitVec.ofBool ar ++ n) = .ok (.sbegin n ar) := by
  have hop : opField (0x10#8 ++ 0#7 ++ BitVec.ofBool ar ++ n) = 0x10#8 := by
    rw [opField, BitVec.extractLsb'_append_eq_of_le (by decide)]; cases ar <;> rfl
  have hres : (0x10#8 ++ 0#7 ++ BitVec.ofBool ar ++ n).extractLsb' 17 7 = 0#7 := by
    rw [BitVec.extractLsb'_append_eq_of_le (by decide)]; cases ar <;> rfl
  have har : arField (0x10#8 ++ 0#7 ++ BitVec.ofBool ar ++ n) = ar := by
    rw [arField, BitVec.getLsbD_append]; cases ar <;> rfl
  rw [decodeOp_sbegin hop hres, har, lowHalf, BitVec.extractLsb'_append_eq_right]

/-- The encoder's words decode, row by row (30_encoding.md R80). -/
theorem decode_encode (i : Instr) : decode (encode i) = .ok i := by
  rcases Machine.Instr.operation_or_route i with ho | ⟨m, ev, rfl⟩
  case inr => rw [encode_ofRoute, decode, decodeRoute_routeWord]
  cases i
  case dload n => exact decodeOp_encode_dload n
  case sbegin n ar => exact decodeOp_encode_sbegin n ar
  case eval pins => revert pins; decide
  case fstep pins => revert pins; decide
  case event ev => cases ev <;> rfl
  case tick | dwait | pend | fstart | fstop | act | boot => rfl
  all_goals cases ho

/-! ## The rows of the opcode map -/

/-- A field that the row's mask covers holds, in a word the row names, the pattern's bits (30_encoding.md R80). -/
theorem OpcodeRow.field_of_names {row : OpcodeRow} {w : OpWord} (start len : Nat) (h : row.names w = true)
    (hm : row.mask.extractLsb' start len = BitVec.allOnes len) : w.extractLsb' start len = row.pattern.extractLsb' start len := by
  rw [← beq_iff_eq.mp h, BitVec.extractLsb'_and, hm, BitVec.and_allOnes]

/-- Every row's mask covers `op` (30_encoding.md R80). -/
theorem OpcodeRow.opField_of_names {row : OpcodeRow} {w : OpWord} (hrow : row ∈ opcodeTable) (h : row.names w = true) :
    opField w = opField row.pattern :=
  OpcodeRow.field_of_names 24 8 h
    ((by decide : ∀ row ∈ opcodeTable, row.mask.extractLsb' 24 8 = BitVec.allOnes 8) row hrow)

/-- A word that a row of the opcode map names is legal, and its operation is the row's (30_encoding.md R80, R81). -/
theorem decodeOp_of_names {w : OpWord} {row : OpcodeRow} (hrow : row ∈ opcodeTable) (h : row.names w = true) :
    ∃ i, decodeOp w = .ok i ∧ i.mnemonic = row.mnemonic := by
  have hop := OpcodeRow.opField_of_names hrow h
  have field := fun start len => OpcodeRow.field_of_names (w := w) start len h
  have fullMask : row.mask = BitVec.allOnes 32 → w = row.pattern := fun hm => by
    rw [← beq_iff_eq.mp h, hm, BitVec.and_allOnes]
  simp only [opcodeTable, List.mem_cons, List.not_mem_nil, or_false] at hrow
  rcases hrow with rfl | rfl | rfl | rfl | rfl | rfl | rfl | rfl | rfl | rfl | rfl | rfl
  · rw [fullMask rfl]; exact ⟨_, rfl, rfl⟩
  · exact ⟨_, decodeOp_dload hop (field 16 8 rfl), rfl⟩
  · rw [fullMask rfl]; exact ⟨_, rfl, rfl⟩
  · exact ⟨_, decodeOp_sbegin hop (field 17 7 rfl), rfl⟩
  · exact ⟨_, decodeOp_eval hop (field 3 21 rfl), rfl⟩
  · rw [fullMask rfl]; exact ⟨_, rfl, rfl⟩
  · rw [fullMask rfl]; exact ⟨_, rfl, rfl⟩
  · rw [fullMask rfl]; exact ⟨_, rfl, rfl⟩
  · rw [fullMask rfl]; exact ⟨_, rfl, rfl⟩
  · rw [fullMask rfl]; exact ⟨_, rfl, rfl⟩
  · exact ⟨_, decodeOp_event hop (field 2 22 rfl), rfl⟩
  · exact ⟨_, decodeOp_fstep hop (field 3 21 rfl), rfl⟩

/-- Two rows that name one word have one `op`, and no two rows of the map share it (30_encoding.md R80). -/
theorem row_unique {w : OpWord} {a b : OpcodeRow} (ha : a ∈ opcodeTable) (hb : b ∈ opcodeTable) (hna : a.names w = true)
    (hnb : b.names w = true) : a = b := by
  have hop : opField a.pattern = opField b.pattern :=
    (OpcodeRow.opField_of_names ha hna).symm.trans (OpcodeRow.opField_of_names hb hnb)
  exact (by decide : ∀ a ∈ opcodeTable, ∀ b ∈ opcodeTable, opField a.pattern = opField b.pattern → a = b) a ha b hb hop

/-- An operation's word is named by the row with its mnemonic: the cases of `Laws.EncodingRow` together (30_encoding.md R80). -/
theorem encodingRow_of_isOperation {i : Instr} (h : i.isOperation = true) : Laws.EncodingRow.Statement i := by
  cases i
  case tick => exact Laws.EncodingRow.tick
  case dload n => exact Laws.EncodingRow.dload n
  case dwait => exact Laws.EncodingRow.dwait
  case sbegin n ar => exact Laws.EncodingRow.sbegin n ar
  case eval pins => exact Laws.EncodingRow.eval pins
  case pend => exact Laws.EncodingRow.pend
  case fstart => exact Laws.EncodingRow.fstart
  case fstop => exact Laws.EncodingRow.fstop
  case act => exact Laws.EncodingRow.act
  case boot => exact Laws.EncodingRow.boot
  case event ev => exact Laws.EncodingRow.event ev
  case fstep pins => exact Laws.EncodingRow.fstep pins
  all_goals cases h

/-- A legal word is named by the row of the operation it decodes to (30_encoding.md R80, R81). -/
theorem row_of_decodeOp {w : OpWord} {i : Instr} (h : decodeOp w = .ok i) :
    ∃ row ∈ opcodeTable, row.mnemonic = i.mnemonic ∧ row.names w = true := by
  have he := encode_of_decodeOp h
  have hrow := encodingRow_of_isOperation (isOperation_of_encode he)
  rw [Laws.EncodingRow.Statement, he] at hrow
  exact hrow.right

/-! ## The obligations -/

/-- Settles O1. -/
theorem encodedInstructionDecodesBack : Obligations.EncodedInstructionDecodesBack := decode_encode

/-- Settles O2, an operation word by its fields (`encode_of_decodeOp`), a route word by its mode and event. -/
theorem decodedWordEncodesBack : Obligations.DecodedWordEncodesBack := by
  refine ⟨fun w i h => ?_, fun r i h => encode_of_decodeRoute h⟩
  have he := encode_of_decodeOp h
  exact ⟨he, isOperation_of_encode he⟩

/-- Settles O3: a legal word is its instruction's encoding, which the row names; conversely the row's mask fixes `op` and the reserved
bits; and `op` tells the rows apart. -/
theorem legalWordsAreTheRowsOfTheOpcodeMap : Obligations.LegalWordsAreTheRowsOfTheOpcodeMap :=
  ⟨fun _ _ => row_of_decodeOp, fun _ _ => decodeOp_of_names, fun _ _ ha _ hb => row_unique ha hb⟩

/-- Settles O4: the reserved words are those whose mode field decodes to nothing. -/
theorem routeWordSelectsItsRoute : Obligations.RouteWordSelectsItsRoute := by
  refine ⟨decodeRoute_routeWord, fun r hr => ?_⟩
  have hm : Mode.ofCode (r.extractLsb' 2 3) = none := by revert r; decide
  rw [decodeRoute, hm]

/-- Settles O5, word by word. -/
theorem sampleWordsDecode : Obligations.SampleWordsDecode := by
  refine ⟨?_, ?_, ?_, ?_, ?_, ?_, ?_, ?_, ?_, ?_⟩ <;> rfl

end Sys2Proof

/-! What every instruction leaves as it is, said once over the cases of `Effect`, and the induction over a sequence of operations. -/
namespace Sys2Proof.Machine

/-! ## The frame of every instruction -/

/-- What an instruction keeps, and which instructions may write the registers that have one writer (10_state.md R32). -/
structure StepFrame (i : Instr) (s t : State) : Prop where
  cfg : t.cfg = s.cfg
  script : t.script = s.script
  ms : i ≠ .tick → t.ms = s.ms
  delayCnt : i ≠ .tick → (∀ n, i ≠ .dload n) → t.delayCnt = s.delayCnt
  sw : (∀ pins, i ≠ .eval pins) → (∀ pins, i ≠ .fstep pins) → t.sw = s.sw
  sticky : s.cfgErr = true → t.cfgErr = true
  trace : ∃ out, t.trace = s.trace ++ out

/-- A route effect is within the frame of any instruction, also where `booted` or `scan_done` is written first. -/
theorem RouteEffect.stepFrame {s s' t : State} (h : RouteEffect s' t)
    (hs : s' = { s with booted := s'.booted, scanDone := s'.scanDone }) (i : Instr) : StepFrame i s t where
  cfg := by rw [h.frame, hs]
  script := by rw [h.frame, hs]
  ms _ := by rw [h.frame, hs]
  delayCnt _ _ := by rw [h.frame, hs]
  sw _ _ := by rw [h.frame, hs]
  sticky herr := h.sticky (by rw [hs]; exact herr)
  trace := by
    obtain ⟨out, ht⟩ := h.trace
    exact ⟨out, by rw [ht, hs]⟩

/-- A PEND only adds to the trace (42_debounce.md R110). -/
theorem endIteration_trace (s : State) : ∃ out, (endIteration s).trace = s.trace ++ out := by
  obtain ⟨out, h⟩ := replays_endIteration s
  exact ⟨out, h.trace⟩

theorem exec_stepFrame {i : Instr} {s t : State} (h : exec i s = .next t) : StepFrame i s t := by
  cases exec_effect h
  case tick hi =>
    rw [tickActivity_frame, tickFlash_frame]
    exact ⟨rfl, rfl, fun hn => absurd hi hn, fun hn => absurd hi hn, fun _ _ => rfl, id, [], (List.append_nil _).symm⟩
  case dload n hi _ =>
    exact ⟨rfl, rfl, fun _ => rfl, fun _ hn => absurd hi (hn n), fun _ _ => rfl, id, [], (List.append_nil _).symm⟩
  case dwait | sbegin =>
    exact ⟨rfl, rfl, fun _ => rfl, fun _ _ => rfl, fun _ _ => rfl, id, [], (List.append_nil _).symm⟩
  case eval pins hi _ _ _ =>
    rw [evalSwitch_frame]
    exact ⟨rfl, rfl, fun _ => rfl, fun _ _ => rfl, fun he hf => (hi.elim (he pins) (hf pins)).elim, id, [],
      (List.append_nil _).symm⟩
  case pend =>
    have htrace := endIteration_trace s
    rw [endIteration_frame] at htrace ⊢
    exact ⟨rfl, rfl, fun _ => rfl, fun _ _ => rfl, fun _ _ => rfl, id, htrace⟩
  case fstart => exact (routeEffect_startFlash s).stepFrame rfl i
  case fstop => exact (routeEffect_stopFlash s).stepFrame rfl i
  case act => exact (routeEffect_startActivity s).stepFrame rfl i
  case boot => exact (routeEffect_bootUp s).stepFrame rfl i
  case event m ev _ _ => exact (routeEffect_deliver m ev s).stepFrame rfl i
  case route m ev _ _ => exact (routeEffect_performRoute m ev s).stepFrame rfl i

/-! ## Calm operations: all but BOOT and the routes -/

/-- Nothing is transmitted or stored, and the mode, the patch and the boot flag stay. -/
structure Calm (s t : State) : Prop where
  booted : t.booted = s.booted
  mode : t.mode = s.mode
  patch : t.patch = s.patch
  nv : t.nv = s.nv
  trace : ∃ out, t.trace = s.trace ++ out ∧ ∀ o ∈ out, o.isMidi = false ∧ o.isStoreWrite = false

/-- A change of other registers without any output. -/
theorem calm_silent {s t : State} (hb : t.booted = s.booted) (hm : t.mode = s.mode) (hp : t.patch = s.patch) (hn : t.nv = s.nv)
    (ht : t.trace = s.trace) : Calm s t :=
  ⟨hb, hm, hp, hn, [], by simp [ht], by simp⟩

/-- One output that is no MIDI byte and no store write. -/
theorem calm_output {s t : State} (o : Output) (ho : o.isMidi = false ∧ o.isStoreWrite = false) (hb : t.booted = s.booted)
    (hm : t.mode = s.mode) (hp : t.patch = s.patch) (hn : t.nv = s.nv) (ht : t.trace = s.trace ++ [o]) : Calm s t :=
  ⟨hb, hm, hp, hn, [o], ht, by simpa using ho⟩

theorem Calm.trans {s t u : State} (h : Calm s t) (k : Calm t u) : Calm s u := by
  obtain ⟨a, ha, hqa⟩ := h.trace
  obtain ⟨b, hb, hqb⟩ := k.trace
  exact ⟨k.booted.trans h.booted, k.mode.trans h.mode, k.patch.trans h.patch, k.nv.trans h.nv, a ++ b,
    by rw [hb, ha, List.append_assoc], List.forall_mem_append.mpr ⟨hqa, hqb⟩⟩

theorem calm_refreshIntensity (s : State) : Calm s (refreshIntensity s) := by
  unfold refreshIntensity
  split
  · exact calm_output _ ⟨rfl, rfl⟩ rfl rfl rfl rfl rfl
  · exact calm_silent rfl rfl rfl rfl rfl

theorem calm_endIteration (s : State) : Calm s (endIteration s) := by
  unfold endIteration
  split
  · exact (calm_refreshIntensity s).trans (calm_output _ ⟨rfl, rfl⟩ rfl rfl rfl rfl rfl)
  · exact (calm_refreshIntensity s).trans (calm_silent rfl rfl rfl rfl rfl)

/-- The route a step performs, taken by itself or by its event (44_mode_fsm.md R132, R134). -/
def Selects (i : Instr) (s : State) (m : Mode) (ev : Event) : Prop := i = Instr.ofRoute m ev ∨ delivered i s = some ev

/-- A step performs a route, or boots the block, or is calm; FSTART and FSTOP alone of the calm ones write `flash_armed`
(43_flash.md R126). -/
theorem exec_route_or_boot_or_calm {i : Instr} {s t : State} (h : exec i s = .next t) :
    (∃ m ev s', Selects i s m ev ∧ CanPerform m s ∧ (s' = s ∨ s' = { s with scanDone := false }) ∧ t = performRoute m ev s')
      ∨ (s.booted = false ∧ t = bootUp s)
      ∨ (Calm s t ∧ (i ≠ .fstart → i ≠ .fstop → t.flashArmed = s.flashArmed)) := by
  cases exec_effect h
  case event m ev hi hp =>
    refine .inl ⟨m, ev, _, .inr ?_, hp, .inr rfl, rfl⟩
    rcases hi with rfl | ⟨pins, rfl, hd, rfl⟩
    · rfl
    · simp [delivered, hp.booted, hd]
  case route m ev hi hp => exact .inl ⟨m, ev, s, .inl hi, hp, .inl rfl, rfl⟩
  case boot hb => exact .inr (.inl ⟨hb, rfl⟩)
  case tick =>
    rw [tickActivity_frame, tickFlash_frame]
    exact .inr (.inr ⟨calm_silent rfl rfl rfl rfl rfl, fun _ _ => rfl⟩)
  case dload | dwait | sbegin => exact .inr (.inr ⟨calm_silent rfl rfl rfl rfl rfl, fun _ _ => rfl⟩)
  case eval =>
    rw [evalSwitch_frame]
    exact .inr (.inr ⟨calm_silent rfl rfl rfl rfl rfl, fun _ _ => rfl⟩)
  case pend => exact .inr (.inr ⟨calm_endIteration s, fun _ _ => by rw [endIteration_frame]⟩)
  case fstart hi => exact .inr (.inr ⟨calm_silent rfl rfl rfl rfl rfl, fun hn => absurd hi hn⟩)
  case fstop hi => exact .inr (.inr ⟨calm_output _ ⟨rfl, rfl⟩ rfl rfl rfl rfl rfl, fun _ hn => absurd hi hn⟩)
  case act =>
    rw [startActivity_eq]
    exact .inr (.inr ⟨calm_silent rfl rfl rfl rfl rfl, fun _ _ => rfl⟩)

/-! ## Sequences of operations -/

theorem runOps_cons {i : Instr} {rest : List Instr} {s t : State} (h : runOps (i :: rest) s = .next t) :
    ∃ u, exec i s = .next u ∧ runOps rest u = .next t := by
  unfold runOps at h
  split at h
  case h_1 u hu => exact ⟨u, hu, h⟩
  all_goals cases h

theorem throughout_cons {test : Instr → State → Bool} {i : Instr} {rest : List Instr} {s u : State}
    (h : throughout test (i :: rest) s = true) (hu : exec i s = .next u) : test i s = true ∧ throughout test rest u = true := by
  simpa [throughout, hu] using h

/-- Induction over a sequence, counting its TICKs: a property of the count and the state that every operation keeps. -/
theorem runOps_ticks {P : Nat → State → Prop} {ops : List Instr} {s t : State} {k : Nat}
    (hstep : ∀ i ∈ ops, ∀ k u v, P k u → exec i u = .next v → P (if i = .tick then k + 1 else k) v)
    (hs : P k s) (h : runOps ops s = .next t) : P (k + ops.count .tick) t := by
  induction ops generalizing s k with
  | nil => cases h; exact hs
  | cons i rest ih =>
    obtain ⟨u, hu, hrest⟩ := runOps_cons h
    have hv := ih (fun j hj => hstep j (List.mem_cons_of_mem _ hj)) (hstep i (List.mem_cons_self ..) k s u hs hu) hrest
    by_cases hi : i = .tick
    · rw [if_pos hi] at hv
      rwa [List.count_cons, if_pos (by simp [hi]), ← Nat.add_assoc, Nat.add_right_comm]
    · rw [if_neg hi] at hv
      rwa [List.count_cons_of_ne hi]

/-- Induction over a sequence every operation of which meets a test where it is performed. -/
theorem runOps_throughout {P : State → Prop} {test : Instr → State → Bool} {ops : List Instr} {s t : State}
    (hstep : ∀ i ∈ ops, ∀ u v, test i u = true → P u → exec i u = .next v → P v)
    (htest : throughout test ops s = true) (hs : P s) (h : runOps ops s = .next t) : P t := by
  induction ops generalizing s with
  | nil => cases h; exact hs
  | cons i rest ih =>
    obtain ⟨u, hu, hrest⟩ := runOps_cons h
    obtain ⟨hi, htest'⟩ := throughout_cons htest hu
    exact ih (fun j hj => hstep j (List.mem_cons_of_mem _ hj)) htest' (hstep i (List.mem_cons_self ..) s u hi hs hu) hrest

/-! ## The obligations on what is kept -/

/-- TICK in numbers (41_time_base.md R90). -/
theorem delayCnt_of_exec_tick {s t : State} (h : exec .tick s = .next t) : t.delayCnt.toNat = s.delayCnt.toNat - 1 := by
  obtain ⟨u, hu, hframe⟩ := execTick_frame s
  obtain rfl : u = t := by cases hu.symm.trans h; rfl
  rw [hframe]
  dsimp only
  split <;> bv_omega

/-- Settles O13: TICK takes one off the countdown, and no operation but TICK and DLOAD writes it (`exec_stepFrame`). -/
theorem delayCountsTicksExactly : Obligations.DelayCountsTicksExactly := by
  intro ops s t hno h
  have key := runOps_ticks (P := fun k u => u.delayCnt.toNat = s.delayCnt.toNat - k) (k := 0) (ops := ops) ?_ rfl h
  · simpa using key
  intro i hi k u v hu hv
  by_cases htick : i = .tick
  · subst htick
    rw [if_pos rfl, delayCnt_of_exec_tick hv, hu, Nat.sub_sub]
  · have hload : ∀ n, i ≠ .dload n := fun n e => hno n (e ▸ hi)
    rw [if_neg htick, (exec_stepFrame hv).delayCnt htick hload, hu]

/-- The three exits from configuration and the three routes that send a patch are the only ones that write the store
(10_state.md R30). -/
theorem nv_performRoute (m : Mode) (ev : Event) (s : State)
    (h : Instr.ofRoute m ev ∉ [.routeConfigChannelNone, .routeConfigDisplayNone, .routeConfigDisplayMode, .routeNormalUp,
      .routeNormalDown, .routeMode2Mode]) : (performRoute m ev s).nv = s.nv := by
  cases m <;> cases ev
  case configChannel.none | configDisplay.none | configDisplay.mode | normal.up | normal.down | mode2.mode =>
    exact absurd (by simp [Instr.ofRoute]) h
  all_goals rfl

theorem bootUp_nv (s : State) : (bootUp s).nv = s.nv := by rw [bootUp_eq]

/-- An event is delivered by EVENT and FSTEP only (44_mode_fsm.md R132, R134). -/
theorem delivered_eq_none {i : Instr} {s : State} (he : ∀ ev, i ≠ .event ev) (hf : ∀ pins, i ≠ .fstep pins) :
    delivered i s = none := by
  cases i
  case event ev => exact absurd rfl (he ev)
  case fstep pins => exact absurd rfl (hf pins)
  all_goals rfl

/-- Settles O55: `ms` and the switch records by `exec_stepFrame`; the store by the cases of a step, of which only the routes that save
or send write it. -/
theorem writeRightsAreKept : Obligations.WriteRightsAreKept := by
  intro i s t h
  have hframe := exec_stepFrame h
  refine ⟨hframe.ms, hframe.sw, fun he hf h1 h2 h3 h4 h5 h6 off => ?_⟩
  have hnv : t.nv = s.nv := by
    rcases exec_route_or_boot_or_calm h with ⟨m, ev, s', hsel, _, hs', rfl⟩ | ⟨_, rfl⟩ | ⟨hcalm, _⟩
    · have hi : i = Instr.ofRoute m ev := hsel.resolve_right (by simp [delivered_eq_none he hf])
      rw [nv_performRoute m ev s' (by simp [← hi, h1, h2, h3, h4, h5, h6])]
      rcases hs' with rfl | rfl <;> rfl
    · exact bootUp_nv s
    · exact hcalm.nv
  rw [hnv]

/-- Settles O56, three clauses of `exec_stepFrame`. -/
theorem failureIndicatorIsSticky : Obligations.FailureIndicatorIsSticky := fun _ _ _ h =>
  have hframe := exec_stepFrame h
  ⟨hframe.sticky, hframe.trace, hframe.cfg⟩

/-! ## Browsing and the configuration modes -/

/-- The three routes of Mode2 other than the commit are calm (44_mode_fsm.md R154 to R156). -/
theorem calm_browse {ev : Event} (s : State) (hev : ev ≠ .mode) : Calm s (performRoute .mode2 ev s) := by
  cases ev
  case none => exact calm_silent rfl rfl rfl rfl rfl
  case up | down => exact calm_output _ ⟨rfl, rfl⟩ rfl rfl rfl rfl rfl
  case mode => exact absurd rfl hev

theorem Mode.code_inj {m n : Mode} (h : m.code = n.code) : m = n :=
  Option.some.inj ((Mode.ofCode_eq_some.mpr rfl).symm.trans (Mode.ofCode_eq_some.mpr h))

/-- A step in Mode2 that commits nothing is calm (44_mode_fsm.md R159 (c)). -/
theorem calm_of_browsing {i : Instr} {s t : State} (hb : s.booted = true) (hm : s.mode = 4) (hi : i ≠ .routeMode2Mode)
    (hd : delivered i s ≠ some .mode) (h : exec i s = .next t) : Calm s t := by
  rcases exec_route_or_boot_or_calm h with ⟨m, ev, s', hsel, hp, hs', rfl⟩ | ⟨hnb, _⟩ | ⟨hcalm, _⟩
  · obtain rfl : m = .mode2 := Mode.code_inj (hp.mode.symm.trans hm)
    have hev : ev ≠ .mode := by
      rintro rfl
      exact hsel.elim hi hd
    have hs : Calm s s' := by rcases hs' with rfl | rfl <;> exact calm_silent rfl rfl rfl rfl rfl
    exact hs.trans (calm_browse s' hev)
  · exact absurd (hb.symm.trans hnb) (by decide)
  · exact hcalm

/-- Settles O46: every step of the sequence is calm. -/
theorem mode2BrowsingTransmitsNothing : Obligations.Mode2BrowsingTransmitsNothing := by
  intro ops s t hb hm hno htest h
  have key : Calm s t := by
    refine runOps_throughout (fun i hi u v hd hu hv => ?_) htest (calm_silent rfl rfl rfl rfl rfl) h
    refine hu.trans (calm_of_browsing (hu.booted.trans hb) (hu.mode.trans hm) ?_ (by simpa using hd) hv)
    rintro rfl
    exact hno hi
  exact ⟨key.booted.trans hb, key.mode.trans hm, key.patch, fun off => by rw [key.nv], key.trace⟩

/-- Outputs were added, and none of them is a MIDI byte. -/
def NoMidi (s t : State) : Prop := ∃ out, t.trace = s.trace ++ out ∧ ∀ o ∈ out, o.isMidi = false

theorem NoMidi.trans {s t u : State} (h : NoMidi s t) (k : NoMidi t u) : NoMidi s u := by
  obtain ⟨a, ha, hqa⟩ := h
  obtain ⟨b, hb, hqb⟩ := k
  exact ⟨a ++ b, by rw [hb, ha, List.append_assoc], List.forall_mem_append.mpr ⟨hqa, hqb⟩⟩

theorem noMidi_silent {s t : State} (h : t.trace = s.trace) : NoMidi s t := ⟨[], by simp [h], by simp⟩

theorem noMidi_output {s t : State} (o : Output) (ho : o.isMidi = false) (h : t.trace = s.trace ++ [o]) : NoMidi s t :=
  ⟨[o], h, by simpa using ho⟩

/-- ConfigExit saves and shows (44_mode_fsm.md R137). -/
theorem noMidi_configExit (s : State) : NoMidi s (configExit s) := by
  have hstop : NoMidi s (stopFlash s) := noMidi_output _ rfl rfl
  have hsave : NoMidi (stopFlash s) _ := (storeEffect_configSave s.channel s.range s.zeroBased (stopFlash s)).trace
  exact (hstop.trans hsave).trans (noMidi_output _ rfl rfl)

/-- The routes of the three configuration modes transmit nothing (44_mode_fsm.md R159 (b)). -/
theorem noMidi_performRoute {m : Mode} (ev : Event) (s : State) (hn : m ≠ .normal) (h2 : m ≠ .mode2) :
    NoMidi s (performRoute m ev s) := by
  cases m
  case startupConfig => cases ev <;> exact noMidi_output _ rfl rfl
  case configChannel =>
    cases ev
    case none => exact noMidi_configExit s
    all_goals exact noMidi_output _ rfl rfl
  case configDisplay =>
    cases ev
    case none | mode => exact noMidi_configExit s
    all_goals exact noMidi_output _ rfl rfl
  case normal => exact absurd rfl hn
  case mode2 => exact absurd rfl h2

theorem noMidi_bootUp (s : State) : NoMidi s (bootUp s) := by
  rw [bootUp_eq]
  refine ⟨_, by rw [List.append_assoc, List.append_assoc], ?_⟩
  split <;> simp [Output.isMidi]

/-- Settles O57: a step in a configuration mode performs a route of that mode, or boots, or is calm. -/
theorem configurationModesTransmitNothing : Obligations.ConfigurationModesTransmitNothing := by
  intro i s t hm h
  rcases exec_route_or_boot_or_calm h with ⟨m, ev, s', _, hp, hs', rfl⟩ | ⟨_, rfl⟩ | ⟨hcalm, _⟩
  · have hs : NoMidi s s' := by rcases hs' with rfl | rfl <;> exact noMidi_silent rfl
    refine hs.trans (noMidi_performRoute ev s' ?_ ?_) <;> rintro rfl <;> simp [hp.mode, Mode.code] at hm
  · exact noMidi_bootUp s
  · obtain ⟨out, ht, hq⟩ := hcalm.trace
    exact ⟨out, ht, fun o ho => (hq o ho).1⟩

end Sys2Proof.Machine

/-! The invariant of the block (10_state.md R22, 43_flash.md R120): every operation of the model keeps it, first the shared ones, then
the routes, then every instruction, then the step. -/
namespace Sys2Proof.Machine

/-! ## The parameters' constraints -/

/-- The constraints of 00_scope.md R7, one by one. -/
theorem Config.wellFormed_iff (c : Config) : c.wellFormed = true ↔
    16 ≤ c.width ∧ (c.nPhys = 2 ∨ c.nPhys = 3) ∧ c.fastMs.toNat < c.slowMs.toNat ∧ 1 ≤ c.flashToggleMs.toNat
      ∧ c.intMin.toNat < c.intMax.toNat ∧ c.debounceMs.toNat + 1 < c.startupWaitMs.toNat ∧ 1 ≤ c.activityMs.toNat
      ∧ c.scanOrder.first ≠ c.scanOrder.second ∧ c.scanOrder.second ≠ c.scanOrder.third
      ∧ c.scanOrder.first ≠ c.scanOrder.third := by
  simp only [Config.wellFormed, ScanOrder.wellFormed, Bool.and_eq_true, Bool.or_eq_true, decide_eq_true_eq, beq_iff_eq, bne_iff_ne,
    and_assoc]

theorem Config.flashToggle_pos {c : Config} (h : c.wellFormed = true) : 1 ≤ c.flashToggleMs.toNat := by
  obtain ⟨_, _, _, htoggle, _⟩ := (Config.wellFormed_iff c).mp h
  exact htoggle

theorem Config.intMin_ne_intMax {c : Config} (h : c.wellFormed = true) : c.intMin ≠ c.intMax := by
  obtain ⟨_, _, _, _, hlevels, _⟩ := (Config.wellFormed_iff c).mp h
  intro e
  rw [e] at hlevels
  exact Nat.lt_irrefl _ hlevels

/-! ## The invariant reads some registers only -/

/-- A change of registers that the invariant does not read keeps it, the store kept in canonical form. -/
theorem Inv.of_frame {s t : State} (h : Inv s) (hwf : Memory.wf t.nv = true)
    (hf : t = { s with
      delayCnt := t.delayCnt, scanIdx := t.scanIdx, scanTimeout := t.scanTimeout, scanAr := t.scanAr, periodAcc := t.periodAcc,
      scanResult := t.scanResult, booted := t.booted, channel := t.channel, zeroBased := t.zeroBased, cfgErr := t.cfgErr, nv := t.nv,
      held := t.held, script := t.script, outcomes := t.outcomes, drawIndex := t.drawIndex, trace := t.trace }) : Inv t := by
  rw [hf]
  exact ⟨h.config, ⟨h.codes.mode, h.codes.switches, h.codes.range⟩,
    ⟨h.times.ms, h.times.scanStart, h.times.downSince, h.times.firstDown⟩, hwf, ⟨h.patches.patch, h.patches.work⟩,
    ⟨h.flash.twoLevels, h.flash.restsAtMax, h.flash.countsDown, h.flash.noIndicator, h.flash.exclusive⟩, h.oneResult⟩

theorem Inv.emit {s : State} (h : Inv s) (a : Action) : Inv (s.emit a) := h.of_frame h.store rfl

theorem Inv.storeEffect {s t : State} (h : Inv s) (e : StoreEffect s t) : Inv t :=
  h.of_frame (e.wf h.store) (by rw [e.frame])

/-- A change of the flash registers keeps the invariant if it keeps theirs. -/
theorem Inv.of_flash {s t : State} (h : Inv s) (hflash : FlashInv t)
    (hf : t = { s with
      flashArmed := t.flashArmed, flashCnt := t.flashCnt, intensity := t.intensity, ind := t.ind, actCnt := t.actCnt }) : Inv t := by
  rw [hf] at hflash ⊢
  exact ⟨h.config, ⟨h.codes.mode, h.codes.switches, h.codes.range⟩,
    ⟨h.times.ms, h.times.scanStart, h.times.downSince, h.times.firstDown⟩, h.store, ⟨h.patches.patch, h.patches.work⟩, hflash,
    h.oneResult⟩

/-- A change of the FSM's registers keeps the invariant if the mode and the range are legal and the patches in range. -/
theorem Inv.of_fsm {s t : State} (h : Inv s) (hmode : (Mode.ofCode t.mode).isSome = true) (hrange : t.range.toNat < Config.nRanges)
    (hpatches : PatchInv t)
    (hf : t = { s with mode := t.mode, patch := t.patch, work := t.work, range := t.range }) : Inv t := by
  rw [hf] at hmode hrange hpatches ⊢
  exact ⟨h.config, ⟨hmode, h.codes.switches, hrange⟩,
    ⟨h.times.ms, h.times.scanStart, h.times.downSince, h.times.firstDown⟩, h.store, hpatches,
    ⟨h.flash.twoLevels, h.flash.restsAtMax, h.flash.countsDown, h.flash.noIndicator, h.flash.exclusive⟩, h.oneResult⟩

/-- A change of the debounce engine's registers keeps the invariant if the codes, the times and the one result are legal. -/
theorem Inv.of_scan {s t : State} (h : Inv s) (hswitches : t.sw.legal = true) (htimes : TimeInv t)
    (hone : t.scanDone = true → t.scanActive = false)
    (hf : t = { s with
      ms := t.ms, sw := t.sw, scanActive := t.scanActive, scanIdx := t.scanIdx, scanDone := t.scanDone, scanStart := t.scanStart,
      scanTimeout := t.scanTimeout, scanAr := t.scanAr, periodAcc := t.periodAcc, scanResult := t.scanResult }) : Inv t := by
  rw [hf] at hswitches htimes hone ⊢
  exact ⟨h.config, ⟨h.codes.mode, hswitches, h.codes.range⟩, htimes, h.store, ⟨h.patches.patch, h.patches.work⟩,
    ⟨h.flash.twoLevels, h.flash.restsAtMax, h.flash.countsDown, h.flash.noIndicator, h.flash.exclusive⟩, hone⟩

/-! ## The flash controller -/

theorem flashInv_startFlash (s : State) (hpos : 1 ≤ s.cfg.flashToggleMs.toNat) : FlashInv (startFlash s) where
  twoLevels := .inr rfl
  restsAtMax _ := rfl
  countsDown _ := ⟨hpos, Nat.le_refl _⟩
  noIndicator _ := ⟨rfl, rfl⟩
  exclusive _ := rfl

theorem FlashInv.disarmFlash {s : State} (h : FlashInv s) : FlashInv (disarmFlash s) where
  twoLevels := .inr rfl
  restsAtMax _ := rfl
  countsDown ha := nomatch ha
  noIndicator hext := ⟨rfl, (h.noIndicator hext).2⟩
  exclusive ha := nomatch ha

theorem Inv.startFlash {s : State} (h : Inv s) : Inv (startFlash s) :=
  h.of_flash (flashInv_startFlash s (Config.flashToggle_pos h.config)) rfl

theorem Inv.disarmFlash {s : State} (h : Inv s) : Inv (disarmFlash s) := h.of_flash h.flash.disarmFlash rfl

theorem Inv.stopFlash {s : State} (h : Inv s) : Inv (stopFlash s) := h.disarmFlash.emit _

theorem Inv.startActivity {s : State} (h : Inv s) : Inv (startActivity s) := by
  unfold Machine.startActivity
  split
  case isFalse => exact h
  case isTrue hc =>
    obtain ⟨hext, harm⟩ : s.cfg.extIndicator = true ∧ s.flashArmed = false := by simpa using hc
    refine h.of_flash ⟨h.flash.twoLevels, h.flash.restsAtMax, h.flash.countsDown, fun he => ?_, fun ha => ?_⟩ rfl
    · exact absurd (hext.symm.trans he) (by decide)
    · exact absurd (harm.symm.trans ha) (by decide)

theorem toggledIntensity_level (c : Config) (level : BitVec 8) :
    toggledIntensity c level = c.intMin ∨ toggledIntensity c level = c.intMax := by
  unfold toggledIntensity
  split
  · exact .inl rfl
  · exact .inr rfl

/-- The countdown of an armed controller stays between 1 and its period (43_flash.md R120). -/
theorem FlashInv.tickFlash {s : State} (h : FlashInv s) (hpos : 1 ≤ s.cfg.flashToggleMs.toNat) : FlashInv (tickFlash s) := by
  unfold Machine.tickFlash
  split
  case isFalse => exact h
  case isTrue harm =>
    have hcount := h.countsDown harm
    split
    case isTrue =>
      refine ⟨toggledIntensity_level _ _, fun ha => ?_, fun _ => ⟨hpos, Nat.le_refl _⟩, fun he => ?_, h.exclusive⟩
      · exact absurd (harm.symm.trans ha) (by decide)
      · have he' : s.cfg.extIndicator = false := he
        refine ⟨?_, (h.noIndicator he').2⟩
        simp [toggleFlash, indicatorAt, he', (h.noIndicator he').1]
    case isFalse hn =>
      refine ⟨h.twoLevels, h.restsAtMax, fun _ => ?_, h.noIndicator, h.exclusive⟩
      dsimp only
      bv_omega

theorem FlashInv.tickActivity {s : State} (h : FlashInv s) : FlashInv (tickActivity s) := by
  unfold Machine.tickActivity
  split
  case isFalse => exact h
  case isTrue hc =>
    obtain ⟨⟨hext, harm⟩, -⟩ : (s.cfg.extIndicator = true ∧ s.flashArmed = false) ∧ s.actCnt ≠ 0 := by simpa using hc
    refine ⟨h.twoLevels, h.restsAtMax, h.countsDown, fun he => ?_, fun ha => ?_⟩
    · exact absurd (hext.symm.trans he) (by decide)
    · exact absurd (harm.symm.trans ha) (by decide)

/-- TICK writes a W-bit counter and runs the flash registers (41_time_base.md R90). -/
theorem Inv.tick {s : State} (h : Inv s) : Inv (tickActivity (tickFlash (tickTimeBase s))) := by
  have htimes : TimeInv { s with ms := nextMs s.cfg.width s.ms } :=
    ⟨Nat.mod_lt _ (Nat.two_pow_pos _), h.times.scanStart, h.times.downSince, h.times.firstDown⟩
  have hbase : Inv (tickTimeBase s) :=
    (h.of_scan (t := { s with ms := nextMs s.cfg.width s.ms }) h.codes.switches htimes h.oneResult rfl).of_frame h.store rfl
  have hflash := (hbase.flash.tickFlash (Config.flashToggle_pos hbase.config)).tickActivity
  exact hbase.of_flash hflash (by rw [tickActivity_frame, tickFlash_frame])

/-! ## The debounce engine -/

theorem SwitchFile.legal_set {f : SwitchFile} (h : f.legal = true) (r : Role) {x : Switch} (hx : x.st ≠ 3) :
    (f.set r x).legal = true := by
  obtain ⟨hu, hd, hm⟩ := (SwitchFile.legal_iff f).mp h
  rw [SwitchFile.legal_iff]
  cases r
  · exact ⟨hx, hd, hm⟩
  · exact ⟨hu, hx, hm⟩
  · exact ⟨hu, hd, hx⟩

theorem SwitchFile.get_set (f : SwitchFile) (r q : Role) (x : Switch) : (f.set r x).get q = if q = r then x else f.get q := by
  cases r <;> cases q <;> rfl

theorem SwitchState.code_ne_reserved (x : SwitchState) : x.code ≠ 3 := by cases x <;> decide

theorem SwitchFile.get_st_ne {f : SwitchFile} (h : f.legal = true) (r : Role) : (f.get r).st ≠ 3 := by
  obtain ⟨hu, hd, hm⟩ := (SwitchFile.legal_iff f).mp h
  cases r
  · exact hu
  · exact hd
  · exact hm

/-- One record replaced by a legal one with W-bit timestamps, and the scan's registers written without a second result: the shape of
every case of EVAL but COMBINED. -/
theorem Inv.of_setSwitch {s t : State} (h : Inv s) (r : Role) (x : Switch) (hx : x.st ≠ 3) (hdown : x.downSince < 2 ^ s.cfg.width)
    (hfirst : x.firstDown < 2 ^ s.cfg.width) (hone : t.scanDone = true → t.scanActive = false)
    (hf : t = { s with
      sw := s.sw.set r x, scanActive := t.scanActive, scanIdx := t.scanIdx, scanDone := t.scanDone, periodAcc := t.periodAcc,
      scanResult := t.scanResult }) : Inv t := by
  have hsw : t.sw = s.sw.set r x := by rw [hf]
  have hcfg : t.cfg = s.cfg := by rw [hf]
  have hms : t.ms = s.ms := by rw [hf]
  have hstart : t.scanStart = s.scanStart := by rw [hf]
  refine h.of_scan (hsw ▸ SwitchFile.legal_set h.codes.switches r hx) ⟨?_, ?_, fun q => ?_, fun q => ?_⟩ hone (by rw [hf])
  · rw [hms, hcfg]; exact h.times.ms
  · rw [hstart, hcfg]; exact h.times.scanStart
  · rw [hsw, hcfg, SwitchFile.get_set]
    split
    · exact hdown
    · exact h.times.downSince q
  · rw [hsw, hcfg, SwitchFile.get_set]
    split
    · exact hfirst
    · exact h.times.firstDown q

theorem Inv.advance {s : State} (h : Inv s) : Inv (advance s) := h.of_frame h.store rfl

theorem Inv.evalSwitch {s : State} (h : Inv s) (r : Role) (pins : Pins) :
    Inv (evalSwitch r s.ms pins s) := by
  have hdown := h.times.downSince r
  have hfirst := h.times.firstDown r
  have hst := SwitchFile.get_st_ne h.codes.switches r
  have hreleased := SwitchState.code_ne_reserved .released
  have hnone : s.scanDone = true → s.scanActive = false := h.oneResult
  rcases evalSwitch_cases r s.ms pins s with ⟨_, he⟩ | ⟨_, he⟩ | ⟨_, he⟩ | ⟨_, he⟩ | ⟨_, he⟩ | ⟨_, he⟩ <;> rw [he]
  case inl =>
    obtain ⟨_, _, hm⟩ := (SwitchFile.legal_iff _).mp h.codes.switches
    refine h.of_scan ((SwitchFile.legal_iff _).mpr ⟨hreleased, hreleased, hm⟩)
      ⟨h.times.ms, h.times.scanStart, fun q => ?_, fun q => ?_⟩ hnone rfl
    · have := h.times.downSince q
      cases q <;> exact this
    · have := h.times.firstDown q
      cases q <;> exact this
  case inr.inl => exact h.of_setSwitch r { s.sw.get r with st := SwitchState.released.code } hreleased hdown hfirst hnone rfl
  case inr.inr.inl => exact h.of_setSwitch r _ (SwitchState.code_ne_reserved .pressedUnconfirmed) h.times.ms h.times.ms hnone rfl
  case inr.inr.inr.inl =>
    unfold evalConfirm
    split
    · exact h.of_setSwitch r { s.sw.get r with st := SwitchState.pressedConfirmed.code }
        (SwitchState.code_ne_reserved .pressedConfirmed) hdown hfirst (fun _ => rfl) rfl
    · exact h.advance
  case inr.inr.inr.inr.inl =>
    unfold evalRepeat
    dsimp only
    split
    · exact h.of_setSwitch r { s.sw.get r with downSince := s.ms } hst h.times.ms hfirst (fun _ => rfl) rfl
    · exact h.of_frame h.store rfl
  case inr.inr.inr.inr.inr => exact h.advance

theorem Inv.beginScan {s : State} (h : Inv s) (len : BitVec 16) (ar : Bool) : Inv (beginScan len ar s) :=
  h.of_scan h.codes.switches ⟨h.times.ms, h.times.ms, h.times.downSince, h.times.firstDown⟩ (fun hd => (nomatch hd)) rfl

theorem Inv.refreshIntensity {s : State} (h : Inv s) : Inv (refreshIntensity s) := by
  unfold Machine.refreshIntensity
  split
  · exact h.emit _
  · exact h

theorem Inv.endIteration {s : State} (h : Inv s) : Inv (endIteration s) := by
  have hr := h.refreshIntensity
  unfold Machine.endIteration
  split
  · have hend : Inv { Machine.refreshIntensity s with scanResult := .none, scanDone := true, scanActive := false } :=
      hr.of_scan hr.codes.switches ⟨hr.times.ms, hr.times.scanStart, hr.times.downSince, hr.times.firstDown⟩ (fun _ => rfl) rfl
    exact hend.of_frame hr.store rfl
  · exact hr.of_frame hr.store rfl

/-! ## The patch and the routes -/

theorem incPatch_le (c : Config) (r : BitVec 3) (p : BitVec 14) : (incPatch c r p).toNat ≤ (maxPatchOf c r).toNat := by
  rw [incPatch_toNat]
  split <;> omega

theorem decPatch_le {c : Config} {r : BitVec 3} {p : BitVec 14} (h : p.toNat ≤ (maxPatchOf c r).toNat) :
    (decPatch c r p).toNat ≤ (maxPatchOf c r).toNat := by
  rw [decPatch_toNat]
  split <;> omega

/-- `clamp(p, r)` in numbers (44_mode_fsm.md R135). -/
theorem clampPatch_toNat (c : Config) (r : BitVec 3) (n : Nat) : (clampPatch c r n).toNat = min n (maxPatchOf c r).toNat := by
  have hmax := (maxPatchOf c r).isLt
  unfold clampPatch
  split
  case isTrue h => rw [BitVec.toNat_ofNat, Nat.mod_eq_of_lt (by omega), Nat.min_eq_left h]
  case isFalse h => rw [Nat.min_eq_right (by omega)]

theorem clampPatch_le (c : Config) (r : BitVec 3) (n : Nat) : (clampPatch c r n).toNat ≤ (maxPatchOf c r).toNat :=
  clampPatch_toNat c r n ▸ Nat.min_le_right ..

theorem nextRange_toNat (r : BitVec 3) : (nextRange r).toNat = (r.toNat + 1) % 5 := by revert r; decide

theorem Inv.goto {s : State} (h : Inv s) (m : Mode) (hw : m = .mode2 → s.work.toNat ≤ (maxPatchOf s.cfg s.range).toNat) :
    Inv (s.goto m) := by
  refine h.of_fsm (by rw [goto_mode, Mode.ofCode_eq_some.mpr rfl]; rfl) h.codes.range ⟨h.patches.patch, fun hm => hw ?_⟩ rfl
  exact Mode.code_inj hm

theorem Inv.sendPatch {s : State} (h : Inv s) : Inv (sendPatch s) := by
  unfold Machine.sendPatch
  have hmidi : Inv (midiSend s.channel s.patch s.range s) := h.of_frame h.store rfl
  have hact := hmidi.startActivity
  refine Inv.emit ?_ _
  split
  · exact hact.storeEffect (storeEffect_storeLast _ _)
  · exact hact

theorem Inv.configExit {s : State} (h : Inv s) : Inv (configExit s) :=
  ((h.stopFlash.storeEffect (storeEffect_configSave _ _ _ _)).goto .normal (fun hm => (nomatch hm))).emit _

/-- The active patch replaced by one in range, then sent (44_mode_fsm.md R151, R152). -/
theorem Inv.stepPatch {s : State} (h : Inv s) {p : BitVec 14} (hp : p.toNat ≤ (maxPatchOf s.cfg s.range).toNat) :
    Inv (stepPatch p s) :=
  (h.of_fsm (t := { s with patch := p }) h.codes.mode h.codes.range ⟨hp, h.patches.work⟩ rfl).sendPatch

/-- The working copy replaced by one in range, then shown (44_mode_fsm.md R155, R156). -/
theorem Inv.stepWork {s : State} (h : Inv s) {w : BitVec 14} (hw : w.toNat ≤ (maxPatchOf s.cfg s.range).toNat) :
    Inv (stepWork w s) :=
  (h.of_fsm (t := { s with work := w }) h.codes.mode h.codes.range ⟨h.patches.patch, fun _ => hw⟩ rfl).emit _

/-- The range changed and the patch clamped to it, outside Mode2 (44_mode_fsm.md R145). -/
theorem Inv.routeConfigChannelMode {s : State} (h : Inv s) (hm : s.mode = Mode.configChannel.code) :
    Inv (routeConfigChannelMode s) := by
  have hrange : (nextRange s.range).toNat < Config.nRanges := by rw [nextRange_toNat]; exact Nat.mod_lt _ (by decide)
  have hclamp := clampPatch_le s.cfg (nextRange s.range) s.patch.toNat
  refine Inv.emit (h.of_fsm (t := { s with range := nextRange s.range, patch := clampPatch s.cfg (nextRange s.range) s.patch.toNat })
    h.codes.mode hrange ⟨hclamp, fun he => ?_⟩ rfl) _
  exact absurd (hm.symm.trans he) (by decide)

/-- Every route, where EVENT may perform it (44_mode_fsm.md R138 to R157). -/
theorem Inv.performRoute {s : State} (h : Inv s) {m : Mode} (hm : s.mode = m.code) (ev : Event) : Inv (performRoute m ev s) := by
  have hcalm : ∀ m : Mode, m ≠ .mode2 → Inv (s.goto m) := fun m hne => h.goto m fun he => absurd he hne
  cases m <;> cases ev
  case startupConfig.none => exact (hcalm _ (by decide)).emit _
  case startupConfig.up | startupConfig.mode | startupConfig.down => exact (hcalm _ (by decide)).startFlash.emit _
  case configChannel.none | configDisplay.none | configDisplay.mode => exact h.configExit
  case configChannel.up | configChannel.down | configDisplay.up | configDisplay.down => exact h.of_frame h.store rfl
  case configChannel.mode => exact h.routeConfigChannelMode hm
  case normal.none | mode2.none => exact h
  case normal.up => exact h.stepPatch (incPatch_le ..)
  case normal.down => exact h.stepPatch (decPatch_le h.patches.patch)
  case normal.mode =>
    have hwork : Inv { s with work := s.patch } :=
      h.of_fsm h.codes.mode h.codes.range ⟨h.patches.patch, fun _ => h.patches.patch⟩ rfl
    exact hwork.startFlash.goto .mode2 fun _ => h.patches.patch
  case mode2.up => exact h.stepWork (incPatch_le ..)
  case mode2.down => exact h.stepWork (decPatch_le (h.patches.work hm))
  case mode2.mode => exact (h.stepPatch (h.patches.work hm)).stopFlash.goto .normal fun he => (nomatch he)

theorem Inv.deliver {s : State} (h : Inv s) {m : Mode} (hm : s.mode = m.code) (ev : Event) : Inv (deliver m ev s) :=
  Inv.performRoute
    (h.of_scan (t := { s with scanDone := false }) h.codes.switches
      ⟨h.times.ms, h.times.scanStart, h.times.downSince, h.times.firstDown⟩ (fun hd => (nomatch hd)) rfl) hm ev

theorem loadedRange_lt (s : State) : (loadedRange s).toNat < Config.nRanges := by
  have hlt : (s.nvByte .range).toNat % Config.nRanges < Config.nRanges := Nat.mod_lt _ (by decide)
  rw [loadedRange, BitVec.toNat_ofNat]
  exact Nat.lt_of_le_of_lt (Nat.mod_le ..) hlt

theorem loadedPatch_le (s : State) : (loadedPatch s).toNat ≤ (maxPatchOf s.cfg (loadedRange s)).toNat := by
  unfold loadedPatch
  split
  · exact clampPatch_le ..
  · exact Nat.zero_le _

theorem Inv.bootUp {s : State} (h : Inv s) : Inv (bootUp s) := by
  have hload : Inv { s with
      mode := Mode.startupConfig.code, patch := loadedPatch s, work := loadedPatch s, range := loadedRange s } :=
    h.of_fsm rfl (loadedRange_lt s) ⟨loadedPatch_le s, fun he => (nomatch he)⟩ rfl
  rw [bootUp_eq]
  exact hload.of_frame h.store rfl

/-! ## Every instruction and every step -/

theorem Inv.exec {i : Instr} {s t : State} (h : Inv s) (he : Machine.exec i s = .next t) : Inv t := by
  cases exec_effect he
  case tick => exact h.tick
  case dload | dwait => exact h.of_frame h.store rfl
  case sbegin => exact h.beginScan _ _
  case eval => exact h.evalSwitch _ _
  case pend => exact h.endIteration
  case fstart => exact h.startFlash
  case fstop => exact h.stopFlash
  case act => exact h.startActivity
  case boot => exact h.bootUp
  case event m ev _ hp => exact h.deliver hp.mode ev
  case route m ev _ hp => exact h.performRoute hp.mode ev

/-- Power-on meets the invariant, whatever was drawn (10_state.md R33). -/
theorem inv_powerOn {c : Config} (d : ResetDraw) {nv : Memory} (hc : c.wellFormed = true) (hnv : Memory.wf nv = true) :
    Inv (State.powerOn c d nv) where
  config := hc
  codes := ⟨rfl, rfl, Nat.zero_lt_succ 4⟩
  times := by
    have hlt : ∀ n, n % 2 ^ c.width < 2 ^ c.width := fun n => Nat.mod_lt _ (Nat.two_pow_pos _)
    exact ⟨hlt _, hlt _, fun r => by cases r <;> exact hlt _, fun r => by cases r <;> exact hlt _⟩
  store := hnv
  patches := ⟨Nat.zero_le _, fun _ => Nat.zero_le _⟩
  flash := ⟨.inr rfl, fun _ => rfl, fun h => (nomatch h), fun _ => ⟨rfl, rfl⟩, fun _ => rfl⟩
  oneResult := fun _ => rfl

theorem inv_powerCycle {s : State} (d : ResetDraw) (hc : s.cfg.wellFormed = true) (hnv : Memory.wf s.nv = true) :
    Inv (s.powerCycle d) :=
  (inv_powerOn d hc hnv).of_frame hnv rfl

/-- Power lost inside an operation: the outputs carried out keep the parameters and the canonical form (20_memory.md R56). -/
theorem inv_losePower {s : State} (k : Nat) (d : ResetDraw) (t : State) (h : Inv s) : Inv (losePower k d s t) := by
  obtain ⟨hframe, hwf⟩ := carryOutAll_frame s ((outputsSince s t).take k)
  refine inv_powerCycle d ?_ (hwf h.store)
  rw [hframe]
  exact h.config

theorem Inv.runWord {w : OpWord} {s t : State} (h : Inv s) (hw : Machine.runWord w s = .next t) : Inv t := by
  unfold Machine.runWord at hw
  split at hw
  · exact h.exec hw
  · cases hw

theorem Inv.perform {x : Stimulus} {s t : State} (h : Inv s) (hx : Machine.perform x s = .next t) : Inv t := by
  cases x
  case op w => exact h.runWord hx
  case powerCycle d =>
    cases hx
    exact inv_powerCycle d h.config h.store
  case powerLoss w k d =>
    have hw : mapNext (losePower k d s) (Machine.runWord w s) = .next t := hx
    unfold mapNext at hw
    split at hw <;> cases hw
    exact inv_losePower k d _ h

theorem Inv.afterFetch {s : State} (h : Inv s) : Inv s.afterFetch := by
  unfold State.afterFetch
  split
  · split
    · exact h
    · exact h.of_frame h.store rfl
  · exact h.of_frame h.store rfl

/-- Settles O51; the reset state is a power-on with the test configuration. -/
theorem powerOnMeetsTheInvariant : Obligations.PowerOnMeetsTheInvariant :=
  ⟨fun _ d _ hc hnv => inv_powerOn d hc hnv, inv_powerOn ResetDraw.zero (by decide) rfl⟩

/-- Settles O52: the fetch changes the script alone, and every stimulus keeps the invariant. -/
theorem everyStepKeepsTheInvariant : Obligations.EveryStepKeepsTheInvariant := by
  intro s t h hstep
  unfold step at hstep
  split at hstep
  · exact h.afterFetch.perform hstep
  · cases hstep

end Sys2Proof.Machine

/-! One step of the block: which stimulus is taken and what is performed, for each form of the script (00_scope.md R8,
30_encoding.md R81, 41_time_base.md R92). -/
namespace Sys2Proof.Machine

/-! ## Words -/

theorem runWord_ok {w : OpWord} {i : Instr} (h : decodeOp w = .ok i) (s : State) : runWord w s = exec i s := by
  rw [runWord, h]

theorem decodeOp_tickWord : decodeOp tickWord = .ok .tick := rfl

theorem decodeOp_dwaitWord : decodeOp dwaitWord = .ok .dwait := rfl

/-- FSTEP's word is the encoder's (30_encoding.md R72, R80). -/
theorem decodeOp_fstepWord (pins : Pins) : decodeOp (fstepWord pins) = .ok (.fstep pins) := decode_encode (.fstep pins)

/-- The decoder's answer for a word: where it is an error, it names the word's `op` or the word (30_encoding.md R81). -/
def NamesTheWord (w : OpWord) (x : Except DecodeError Instr) : Prop :=
  ∀ e, x = .error e → e = .unassignedOp (opField w) ∨ e = .reservedBitSet w

theorem namesTheWord_ite {w : OpWord} {c : Prop} [Decidable c] {a b : Except DecodeError Instr} (ha : NamesTheWord w a)
    (hb : NamesTheWord w b) : NamesTheWord w (if c then a else b) := by
  split
  · exact ha
  · exact hb

/-- Every format refuses a word by the word itself (30_encoding.md R72, R81). -/
theorem namesTheWord_format {w : OpWord} {c : Prop} [Decidable c] (i : Instr) :
    NamesTheWord w (if c then .ok i else .error (.reservedBitSet w)) :=
  namesTheWord_ite (fun _ h => (nomatch h)) fun _ h => by cases h; exact .inr rfl

theorem namesTheWord_decodeOp (w : OpWord) : NamesTheWord w (decodeOp w) := by
  unfold decodeOp
  iterate 12 refine namesTheWord_ite (namesTheWord_format _) ?_
  intro e h
  cases h
  exact .inl rfl

/-- A word that no row of the opcode map names is refused by name (30_encoding.md R81). -/
theorem runWord_unnamed {w : OpWord} (h : ∀ row ∈ opcodeTable, row.names w = false) (s : State) :
    runWord w s = .refused (.unassignedOp (opField w)) ∨ runWord w s = .refused (.reservedBitSet w) := by
  cases hd : decodeOp w with
  | ok i =>
    obtain ⟨row, hrow, _, hn⟩ := row_of_decodeOp hd
    exact absurd (hn.symm.trans (h row hrow)) (by decide)
  | error e =>
    rw [runWord, hd]
    rcases namesTheWord_decodeOp w e hd with rfl | rfl
    · exact .inl rfl
    · exact .inr rfl

/-! ## The stimulus taken -/

/-- The head of the script is taken unless MAIN is held and the head has to wait (41_time_base.md R92). -/
theorem step_taken {s : State} {x : Stimulus} {rest : List Stimulus} (hc : s.cfg.wellFormed = true) (hs : s.script = x :: rest)
    (hx : (s.held && !passesHold x) = false) : step s = perform x { s with script := rest } := by
  simp [step, hc, State.nextStimulus, State.afterFetch, hs, hx]

/-- Otherwise the step is the DWAIT again, and the script stays (41_time_base.md R92). -/
theorem step_waiting {s : State} {x : Stimulus} {rest : List Stimulus} (hc : s.cfg.wellFormed = true) (hs : s.script = x :: rest)
    (hx : (s.held && !passesHold x) = true) : step s = exec .dwait s := by
  simp only [step, hc, if_true, State.nextStimulus, State.afterFetch, hs, hx, perform]
  exact runWord_ok decodeOp_dwaitWord s

/-- With an empty script the step is what the environment chooses (44_mode_fsm.md R132). -/
theorem step_unscripted {s : State} (hc : s.cfg.wellFormed = true) (hs : s.script = []) :
    step s = runWord (environmentWord (Config.environment s.drawIndex) s.held) { s with drawIndex := s.drawIndex + 1 } := by
  simp only [step, hc, if_true, State.nextStimulus, State.afterFetch, hs, perform]

/-- The environment's word is TICK's, or FSTEP's, or the held DWAIT's. -/
theorem runWord_environmentWord (choice : Option Pins) (held : Bool) (u : State) :
    runWord (environmentWord choice held) u
      = choice.elim (exec .tick u) fun pins => if held then exec .dwait u else exec (.fstep pins) u := by
  cases choice with
  | none => exact runWord_ok decodeOp_tickWord u
  | some pins =>
    cases held with
    | true => exact runWord_ok decodeOp_dwaitWord u
    | false => exact runWord_ok (decodeOp_fstepWord pins) u

/-! ## The obligations -/

/-- Settles O6: the head is taken, and its word runs the decoded instruction. -/
theorem stepRunsTheDecodedOperation : Obligations.StepRunsTheDecodedOperation := by
  intro s w rest i hc hs hh hw
  rw [step_taken hc hs (by simp [hh])]
  exact runWord_ok hw _

/-- The size bounds of R7 that the parameters' types carry, beside those of `Config.wellFormed_iff` (00_scope.md R7). -/
theorem toNat_lt_of_width {c : Config} (h : 16 ≤ c.width) (n : BitVec 16) : n.toNat < 2 ^ c.width ∧ n.toNat < 2 ^ 16 :=
  ⟨Nat.lt_of_lt_of_le n.isLt (Nat.pow_le_pow_right (by decide) h), n.isLt⟩

/-- Settles O7: the refusals by `runWord_unnamed` and the first test of a step; the constraints by `Config.wellFormed_iff`, the bounds
that are not tested there being those of the parameters' types. -/
theorem illegalWordsAndParametersAreRefused : Obligations.IllegalWordsAndParametersAreRefused := by
  refine ⟨fun s w rest hc hs hh hw => ?_, fun s hc => ?_, fun c => ?_⟩
  · rw [step_taken hc hs (by simp [hh])]
    exact runWord_unnamed hw _
  · simp [step, hc]
  · rw [Config.wellFormed_iff]
    constructor
    · rintro ⟨hw, hphys, hperiods, htoggle, hlevels, hwait, hact, horder⟩
      exact ⟨hw, fun n _ => toNat_lt_of_width hw n, hperiods, htoggle, c.flashToggleMs.isLt, hlevels, Nat.le_of_lt_succ c.intMax.isLt,
        fun r hr => Nat.le_of_lt_succ c.maxPatch[r].isLt, hwait, hact, c.activityMs.isLt, hphys, horder⟩
    · rintro ⟨hw, _, hperiods, htoggle, _, hlevels, _, _, hwait, hact, _, hphys, horder⟩
      exact ⟨hw, hphys, hperiods, htoggle, hlevels, hwait, hact, horder⟩

/-- Settles O8: a word passes the hold exactly when it is TICK's or DWAIT's. -/
theorem heldMainRepeatsItsDwait : Obligations.HeldMainRepeatsItsDwait := by
  intro s w rest hc hh hs
  refine ⟨fun ht hd => step_waiting hc hs ?_, ?_, ?_⟩
  · simp [hh, passesHold, wordPassesHold, ht, hd]
  · rintro rfl
    rw [step_taken hc hs (by simp [passesHold, wordPassesHold])]
    exact runWord_ok decodeOp_dwaitWord _
  · rintro rfl
    rw [step_taken hc hs (by simp [passesHold, wordPassesHold])]
    exact runWord_ok decodeOp_tickWord _

/-- Settles O9. -/
theorem unscriptedStepIsTickOrFstep : Obligations.UnscriptedStepIsTickOrFstep := by
  rintro s u hc hs rfl
  rw [step_unscripted hc hs, runWord_environmentWord]

/-- Settles O50: the step takes the power cycle, held or not; the registers are those of Table RST by definition. -/
theorem powerOnSetsTheResetTable : Obligations.PowerOnSetsTheResetTable := by
  rintro s d rest m rfl
  refine ⟨fun hc hs => ?_, rfl⟩
  rw [step_taken hc hs (by simp [passesHold])]
  rfl

end Sys2Proof.Machine

/-! Time: the wrap-around difference, TICK, the blocking delay, and the flash controller's square wave
(41_time_base.md, 43_flash.md). -/
namespace Sys2Proof.Machine

/-! ## Elapsed time -/

theorem elapsed_lt (w now t : Nat) : elapsed w now t < 2 ^ w := Nat.mod_lt _ (Nat.two_pow_pos w)

theorem elapsed_eq_ite (w now t : Nat) :
    elapsed w now t = if t % 2 ^ w ≤ now % 2 ^ w then now % 2 ^ w - t % 2 ^ w else now % 2 ^ w + 2 ^ w - t % 2 ^ w := by
  have hnow := Nat.mod_lt now (Nat.two_pow_pos w)
  unfold elapsed
  generalize 2 ^ w = m at *
  generalize now % m = a at *
  generalize t % m = b
  split
  · rw [show a + m - b = a - b + m by omega, Nat.add_mod_right, Nat.mod_eq_of_lt (by omega)]
  · exact Nat.mod_eq_of_lt (by omega)

/-- Added to the older time, the elapsed time gives the newer one (00_scope.md R10). -/
theorem add_elapsed (w now t : Nat) : (t + elapsed w now t) % 2 ^ w = now % 2 ^ w := by
  have ht := Nat.mod_lt t (Nat.two_pow_pos w)
  have hnow := Nat.mod_lt now (Nat.two_pow_pos w)
  rw [elapsed_eq_ite, ← Nat.mod_add_mod]
  generalize 2 ^ w = m at *
  generalize now % m = a at *
  generalize t % m = b at *
  split
  · rw [show b + (a - b) = a by omega, Nat.mod_eq_of_lt hnow]
  · rw [show b + (a + m - b) = a + m by omega, Nat.add_mod_right, Nat.mod_eq_of_lt hnow]

/-- It is the only W-bit number that does. -/
theorem elapsed_unique {w now t e : Nat} (he : e < 2 ^ w) (h : (t + e) % 2 ^ w = now % 2 ^ w) : elapsed w now t = e := by
  have hmod : elapsed w now t ≡ e [MOD 2 ^ w] := Nat.ModEq.add_left_cancel' t ((add_elapsed w now t).trans h.symm)
  exact hmod.eq_of_lt_of_lt (elapsed_lt w now t) he

theorem elapsed_self (w t : Nat) : elapsed w t t = 0 := elapsed_unique (Nat.two_pow_pos w) rfl

/-- A shift of both times does not show (41_time_base.md R94). -/
theorem elapsed_shift (w k now t : Nat) : elapsed w ((now + k) % 2 ^ w) ((t + k) % 2 ^ w) = elapsed w now t := by
  refine elapsed_unique (elapsed_lt w now t) ?_
  have h := add_elapsed w now t
  rw [Nat.mod_mod, Nat.mod_add_mod, Nat.add_right_comm]
  exact Nat.ModEq.add_right k h

/-- A tick adds one millisecond at most: the difference wraps to 0 after `2^W - 1` (41_time_base.md R95). -/
theorem elapsed_nextMs_le (w now t : Nat) : elapsed w (nextMs w now) t ≤ elapsed w now t + 1 := by
  have h : (t + (elapsed w now t + 1)) % 2 ^ w = nextMs w now % 2 ^ w := by
    rw [nextMs, Nat.mod_mod, ← Nat.add_assoc]
    exact Nat.ModEq.add_right 1 (add_elapsed w now t)
  rw [elapsed_unique (Nat.mod_lt (elapsed w now t + 1) (Nat.two_pow_pos w)) (by rwa [Nat.add_mod_mod])]
  exact Nat.mod_le ..

/-- Settles O14: the two sides of the wrap by `elapsed_eq_ite`. -/
theorem elapsedIsTheWraparoundDifference : Obligations.ElapsedIsTheWraparoundDifference := by
  intro w now t hnow ht
  have heq := elapsed_eq_ite w now t
  rw [Nat.mod_eq_of_lt hnow, Nat.mod_eq_of_lt ht] at heq
  refine ⟨elapsed_lt w now t, (add_elapsed w now t).trans (Nat.mod_eq_of_lt hnow), fun hle => ?_, fun hlt => ?_⟩
  · rw [heq, if_pos hle]
  · rw [heq, if_neg (by omega)]

/-! ## TICK and the delay -/

/-- Settles O10: the frame of TICK with the new counter and countdown in numbers. -/
theorem tickAdvancesTheTimeBase : Obligations.TickAdvancesTheTimeBase := by
  intro s
  obtain ⟨t, ht, hframe⟩ := execTick_frame s
  have hms : t.ms = (s.ms + 1) % 2 ^ s.cfg.width := by rw [hframe]; rfl
  have hnv : t.nv = s.nv := by rw [hframe]
  exact ⟨t, ht, hms, delayCnt_of_exec_tick ht, by rw [hframe], fun off => by rw [hnv]⟩

/-- Settles O11: part (b) by the equations of `tickFlash`, part (c) by those of `tickActivity`. -/
theorem tickRunsTheFlashCountdowns : Obligations.TickRunsTheFlashCountdowns := by
  intro s
  refine ⟨_, rfl, fun ha h1 => ?_, fun ha h1 => ?_, fun ha => ?_, fun hx ha h0 => ?_, fun hstill => ?_, fun ha hstill => ?_⟩
  · simp [tickActivity_ind, tickFlash_flashCnt, tickFlash_intensity, tickFlash_ind, tickTimeBase, ha, h1, toggledIntensity,
      indicatorAt, beq_eq_decide]
  · have hmore : ¬ s.flashCnt - 1#16 = 0#16 := by bv_omega
    simp [tickActivity_ind, tickFlash_flashCnt, tickFlash_intensity, tickFlash_ind, tickTimeBase, ha, hmore]
  · simp [tickFlash_flashCnt, tickFlash_intensity, tickTimeBase, ha]
  · have hrun : ¬ s.actCnt = 0#16 := h0
    simp [tickActivity_actCnt, tickActivity_ind, tickFlash_ind, tickTimeBase, hx, ha, hrun]
  · rcases hstill with h | h | h <;> simp [tickActivity_actCnt, tickTimeBase, h]
  · rcases hstill with h | h <;> simp [tickActivity_ind, tickFlash_ind, tickTimeBase, ha, h]

/-- DLOAD's word in the statement's form (30_encoding.md R72). -/
theorem dloadWord_eq (n : BitVec 16) : 0x02000000#32 ||| n.setWidth 32 = 0x02#8 ++ 0#8 ++ n := by
  refine BitVec.eq_of_getLsbD_eq fun i hi => ?_
  rw [BitVec.getLsbD_or, BitVec.getLsbD_setWidth, BitVec.getLsbD_append]
  by_cases h : i < 16
  · have hzero : ∀ j < 16, (0x02000000#32).getLsbD j = false := by decide
    rw [hzero i h, if_pos h, decide_eq_true hi, Bool.false_or, Bool.true_and]
  · have hout : n.getLsbD i = false := BitVec.getLsbD_of_ge n i (Nat.le_of_not_lt h)
    rw [hout, if_neg h, Bool.and_false, Bool.or_false]
    interval_cases i <;> rfl

/-- Settles O12. -/
theorem delayIsLoadedAndAwaited : Obligations.DelayIsLoadedAndAwaited := by
  intro n s
  have hword : decodeOp (0x02000000 ||| n.setWidth 32) = .ok (.dload n) :=
    (congrArg decodeOp (dloadWord_eq n)).trans (decodeOp_encode_dload n)
  refine ⟨hword, fun h => ?_, fun h => ?_, rfl, fun h => ?_, fun h => ?_⟩
  · exact if_pos h
  · exact if_neg h
  · exact if_pos h
  · exact if_neg h

/-! ## The flash controller -/

/-- Settles O28. -/
theorem flashingIsArmedAndDisarmed : Obligations.FlashingIsArmedAndDisarmed :=
  ⟨rfl, rfl, fun _ => ⟨rfl, rfl⟩⟩

/-- Settles O29. -/
theorem actLightsTheIndicator : Obligations.ActLightsTheIndicator := by
  refine ⟨rfl, fun s => ⟨fun hx ha => ?_, fun hno => ?_⟩⟩
  · have hlit : (s.cfg.extIndicator && !s.flashArmed) = true := by simp [hx, ha]
    exact congrArg _ (if_pos hlit)
  · have hdark : ¬ (s.cfg.extIndicator && !s.flashArmed) = true := by rcases hno with h | h <;> simp [h]
    exact congrArg _ (if_neg hdark)

/-- The controller `k` ticks after it was armed (43_flash.md R123). -/
structure SquareWave (c : Config) (k : Nat) (s : State) : Prop where
  cfg : s.cfg = c
  armed : s.flashArmed = true
  level : s.intensity = if k / c.flashToggleMs.toNat % 2 = 0 then c.intMax else c.intMin
  count : s.flashCnt.toNat = c.flashToggleMs.toNat - k % c.flashToggleMs.toNat

/-- Whether the next tick is the last of its half-period, in terms of the quotient and the remainder. -/
theorem succ_div_mod {k p : Nat} (hp : 1 ≤ p) :
    (k % p + 1 = p ∧ (k + 1) / p = k / p + 1 ∧ (k + 1) % p = 0)
      ∨ (k % p + 1 < p ∧ (k + 1) / p = k / p ∧ (k + 1) % p = k % p + 1) := by
  have hk := Nat.mod_add_div k p
  rcases Nat.lt_or_eq_of_le (Nat.succ_le_of_lt (Nat.mod_lt k hp)) with h | h
  · exact .inr ⟨h, (Nat.div_mod_unique hp).mpr ⟨by omega, h⟩⟩
  · have hsum : 0 + p * (k / p + 1) = k + 1 := by
      rw [Nat.mul_add, Nat.mul_one]
      omega
    exact .inl ⟨h, (Nat.div_mod_unique hp).mpr ⟨hsum, hp⟩⟩

/-- The toggle goes from either level to the other, the two being different (43_flash.md R123). -/
theorem toggledIntensity_alternates {c : Config} (h : c.intMin ≠ c.intMax) (q : Nat) :
    toggledIntensity c (if q % 2 = 0 then c.intMax else c.intMin) = if (q + 1) % 2 = 0 then c.intMax else c.intMin := by
  rcases Nat.mod_two_eq_zero_or_one q with hq | hq
  · have hq1 : (q + 1) % 2 = 1 := by omega
    simp [toggledIntensity, hq, hq1]
  · have hq1 : (q + 1) % 2 = 0 := by omega
    simp [toggledIntensity, hq, hq1, h]

theorem SquareWave.start (s : State) : SquareWave s.cfg 0 (startFlash s) :=
  ⟨rfl, rfl, by simp, by simp⟩

/-- A tick moves the wave on by one (43_flash.md R123). -/
theorem SquareWave.tick {c : Config} {k : Nat} {s t : State} (hc : c.wellFormed = true) (h : SquareWave c k s)
    (ht : exec .tick s = .next t) : SquareWave c (k + 1) t := by
  have hpos := Config.flashToggle_pos hc
  have hlt := c.flashToggleMs.isLt
  have hcount := h.count
  obtain rfl : tickActivity (tickFlash (tickTimeBase s)) = t := Host.Outcome.next.inj ht
  have hlevel : (tickActivity (tickFlash (tickTimeBase s))).intensity
      = if s.flashCnt - 1 = 0 then toggledIntensity c s.intensity else s.intensity := by
    rw [tickActivity_intensity, tickFlash_intensity, ← h.cfg]
    simp [tickTimeBase, h.armed]
  have hnew : (tickActivity (tickFlash (tickTimeBase s))).flashCnt
      = if s.flashCnt - 1 = 0 then c.flashToggleMs else s.flashCnt - 1 := by
    rw [tickActivity_flashCnt, tickFlash_flashCnt, ← h.cfg]
    simp [tickTimeBase, h.armed]
  refine ⟨(exec_stepFrame ht).cfg.trans h.cfg, ?_, ?_, ?_⟩
  · rw [tickActivity_flashArmed, tickFlash_flashArmed]
    exact h.armed
  · rw [hlevel, h.level]
    rcases succ_div_mod (k := k) hpos with ⟨hlast, hdiv, _⟩ | ⟨hin, hdiv, _⟩
    · rw [if_pos (by bv_omega), hdiv, toggledIntensity_alternates (Config.intMin_ne_intMax hc)]
    · rw [if_neg (by bv_omega), hdiv]
  · rw [hnew]
    rcases succ_div_mod (k := k) hpos with ⟨hlast, _, hmod⟩ | ⟨hin, _, hmod⟩
    · rw [if_pos (by bv_omega), hmod, Nat.sub_zero]
    · rw [if_neg (by bv_omega), hmod]
      bv_omega

/-- Settles O30: the wave starts with FSTART, and every tick moves it on. -/
theorem flashingIsASquareWave : Obligations.FlashingIsASquareWave := by
  intro k s t hc h
  obtain ⟨u, hu, hticks⟩ := runOps_cons h
  obtain rfl : startFlash s = u := Host.Outcome.next.inj hu
  have key := runOps_ticks (P := SquareWave s.cfg) (fun i hi j a b ha hb => ?_) (SquareWave.start s) hticks
  · rw [List.count_replicate_self, Nat.zero_add] at key
    exact ⟨key.level, key.count, key.armed⟩
  obtain rfl := List.eq_of_mem_replicate hi
  exact ha.tick hc hb

end Sys2Proof.Machine

/-! The mode state machine: BOOT, EVENT, FSTEP and the routes (44_mode_fsm.md). -/
namespace Sys2Proof.Machine

/-! ## BOOT -/

theorem storedLast_toNat (s : State) : (storedLast s).toNat = (Memory.read s.nv 2).toNat * 256 + (Memory.read s.nv 3).toNat := by
  have hlow := (Memory.read s.nv 3).isLt
  show (Memory.read s.nv 2 ++ Memory.read s.nv 3).toNat = _
  rw [BitVec.toNat_append, ← Nat.shiftLeft_add_eq_or_of_lt hlow, Nat.shiftLeft_eq]

theorem loadedChannel_toNat (s : State) : (loadedChannel s).toNat = (Memory.read s.nv 0).toNat % 16 := by
  simp [loadedChannel, State.nvByte, NvOffset.addr]

theorem loadedRange_toNat (s : State) : (loadedRange s).toNat = (Memory.read s.nv 1).toNat % 5 := by
  have hlt := Nat.mod_lt (Memory.read s.nv 1).toNat (show 5 > 0 by decide)
  rw [loadedRange, BitVec.toNat_ofNat]
  exact Nat.mod_eq_of_lt (Nat.lt_trans hlt (by decide))

theorem loadedPatch_toNat (s : State) : (loadedPatch s).toNat =
    if s.cfg.restoreLast
    then min ((Memory.read s.nv 2).toNat * 256 + (Memory.read s.nv 3).toNat) (maxPatchOf s.cfg (loadedRange s)).toNat else 0 := by
  unfold loadedPatch
  split
  · rw [clampPatch_toNat, storedLast_toNat]
  · rfl

/-- Settles O31: BOOT's effect by `bootUp_eq`, its four results in numbers by the lemmas above. -/
theorem bootLoadsTheConfiguration : Obligations.BootLoadsTheConfiguration := by
  refine ⟨rfl, fun s => ⟨fun hb => ?_, fun hb => if_pos hb⟩⟩
  have hexec : exec .boot s = .next (bootUp s) := if_neg (by simp [hb])
  refine ⟨_, hexec, ?_⟩
  rw [bootUp_eq]
  refine ⟨loadedChannel_toNat s, loadedRange_toNat s, ?_, loadedPatch_toNat s, ?_, fun _ => rfl⟩
  · simp [loadedZeroBased, flagOfByte, State.nvByte, NvOffset.addr, bne, beq_eq_decide]
  · simp [Mode.code]

/-! ## EVENT and FSTEP -/

/-- The reserved mode codes decode to nothing (30_encoding.md R77). -/
theorem Mode.ofCode_reserved {c : BitVec 3} (h : 5 ≤ c.toNat) : Mode.ofCode c = none := by revert c; decide

/-- A route that is not selected is refused (44_mode_fsm.md R134; log entry 11). -/
theorem exec_ofRoute_refused {m : Mode} {s : State} (ev : Event) (h : s.booted = false ∨ s.scanActive = true ∨ s.mode ≠ m.code) :
    exec (Instr.ofRoute m ev) s = .refused .routeNotSelected := by
  have hsel : ¬ routeSelected m s = true := by rcases h with h | h | h <;> simp [routeSelected, h]
  rw [exec_ofRoute, whenSelected, if_neg hsel]

/-- Settles O34: the event and the route perform the same effect on the state with the result consumed. -/
theorem eventPerformsTheSelectedRoute : Obligations.EventPerformsTheSelectedRoute := by
  refine ⟨fun m ev s hp => ⟨?_, _, hp.execEvent_eq ev⟩, fun ev s hno => ?_, fun ev s hb hi hm => ?_, fun m ev s hno =>
    exec_ofRoute_refused ev hno⟩
  · have hp' : CanPerform m { s with scanDone := false } := ⟨hp.booted, hp.idle, hp.mode, hp.range⟩
    rw [hp'.exec_ofRoute ev]
    exact hp.execEvent_eq ev
  · exact if_neg (by rcases hno with h | h <;> simp [h])
  · simp [exec, execEvent, hb, hi, Mode.ofCode_reserved hm]

/-- The SBEGIN line of FSTEP, in a mode that is not reserved (44_mode_fsm.md R133). -/
theorem beginModeScan_eq {m : Mode} {s : State} (h : s.mode = m.code) :
    beginModeScan s = exec (.sbegin (scanTimeoutOf s.cfg m) (scanArOf m)) s := by
  rw [beginModeScan, Mode.ofCode_eq_some.mpr h]
  rfl

/-! The lines of FSTEP, each with its condition (44_mode_fsm.md R132). -/

theorem exec_fstep_boot {s : State} (pins : Pins) (hb : s.booted = false) : exec (.fstep pins) s = exec .boot s := by
  simp [exec, execFstep, hb]

theorem exec_fstep_event {s : State} (pins : Pins) (hb : s.booted = true) (hd : s.scanDone = true) :
    exec (.fstep pins) s = exec (.event s.scanResult) s := by
  simp [exec, execFstep, hb, hd]

theorem exec_fstep_eval {s : State} (pins : Pins) (hb : s.booted = true) (hd : s.scanDone = false) (ha : s.scanActive = true)
    (hi : s.scanIdx ≠ 3) : exec (.fstep pins) s = exec (.eval pins) s := by
  have hline : (s.scanActive && s.scanIdx != 3) = true := by rw [ha, bne_iff_ne.mpr hi]; rfl
  simp only [exec, execFstep, hb, hd, hline, if_true, Bool.not_true, Bool.false_eq_true, if_false]

theorem exec_fstep_pend {s : State} (pins : Pins) (hb : s.booted = true) (hd : s.scanDone = false) (ha : s.scanActive = true)
    (hi : s.scanIdx = 3) : exec (.fstep pins) s = exec .pend s := by
  simp [exec, execFstep, hb, hd, ha, hi]

theorem exec_fstep_begin {s : State} (pins : Pins) (hb : s.booted = true) (hd : s.scanDone = false) (ha : s.scanActive = false) :
    exec (.fstep pins) s = beginModeScan s := by
  simp [exec, execFstep, hb, hd, ha]

/-- Settles O32, line by line; the scan asked for is that of the mode with the code. -/
theorem fstepPerformsOneOperation : Obligations.FstepPerformsOneOperation := by
  refine fun pins s => ⟨exec_fstep_boot pins, exec_fstep_event pins, exec_fstep_eval pins, exec_fstep_pend pins, fun hb hd ha => ?_⟩
  rw [exec_fstep_begin pins hb hd ha]
  refine ⟨fun hm => beginModeScan_eq (m := .startupConfig) hm, ?_, fun hm => beginModeScan_eq (m := .normal) hm,
    fun hm => beginModeScan_eq (m := .mode2) hm, fun hm => ?_⟩
  · rintro (hm | hm)
    · exact beginModeScan_eq (m := .configChannel) hm
    · exact beginModeScan_eq (m := .configDisplay) hm
  · rw [beginModeScan, Mode.ofCode_reserved hm]

/-- Settles O33: under the invariant the operation of each line is accepted. -/
theorem fstepCompletesInEveryLegalState : Obligations.FstepCompletesInEveryLegalState := by
  intro pins s h
  obtain ⟨m, hm⟩ := Option.isSome_iff_exists.mp h.codes.mode
  have hmode : s.mode = m.code := Mode.ofCode_eq_some.mp hm
  cases hb : s.booted
  case false =>
    rw [exec_fstep_boot pins hb]
    exact ⟨bootUp s, if_neg (by simp [hb])⟩
  cases hd : s.scanDone
  case true =>
    rw [exec_fstep_event pins hb hd]
    exact ⟨_, CanPerform.execEvent_eq ⟨hb, h.oneResult hd, hmode, h.codes.range⟩ _⟩
  cases ha : s.scanActive
  case false =>
    rw [exec_fstep_begin pins hb hd ha, beginModeScan_eq hmode]
    exact ⟨_, if_neg (by simp [ha])⟩
  by_cases hi : s.scanIdx = 3
  · rw [exec_fstep_pend pins hb hd ha hi]
    exact ⟨_, if_pos (by simp [ha, hi])⟩
  · rw [exec_fstep_eval pins hb hd ha hi]
    have hdue : (s.scanActive && s.scanIdx != 3) = true := by rw [ha, bne_iff_ne.mpr hi]; rfl
    exact ⟨_, (if_pos hdue).trans (if_pos h.codes.switches)⟩

theorem exec_dwait_completes (s : State) : ∃ t, exec .dwait s = .next t := by
  by_cases h : s.delayCnt = 0
  · exact ⟨_, if_pos h⟩
  · exact ⟨_, if_neg h⟩

/-- Settles O53: TICK and DWAIT always complete, FSTEP by the invariant; no instruction writes the script. -/
theorem unscriptedRunIsNeverRefused : Obligations.UnscriptedRunIsNeverRefused := by
  intro s h hs
  have hu : Inv { s with drawIndex := s.drawIndex + 1 } := h.of_frame h.store rfl
  have hdone : ∃ i t, step s = exec i { s with drawIndex := s.drawIndex + 1 }
      ∧ exec i { s with drawIndex := s.drawIndex + 1 } = .next t := by
    rw [step_unscripted h.config hs, runWord_environmentWord]
    cases Config.environment s.drawIndex with
    | none => exact ⟨.tick, _, rfl, rfl⟩
    | some pins =>
      by_cases hh : s.held = true
      · obtain ⟨t, ht⟩ := exec_dwait_completes { s with drawIndex := s.drawIndex + 1 }
        exact ⟨.dwait, t, if_pos hh, ht⟩
      · obtain ⟨t, ht⟩ := fstepCompletesInEveryLegalState pins _ hu
        exact ⟨.fstep pins, t, if_neg hh, ht⟩
  obtain ⟨i, t, hstep, ht⟩ := hdone
  exact ⟨t, hstep.trans ht, (exec_stepFrame ht).script.trans hs⟩

/-! ## The pure functions and the short routes -/

/-- Settles O35. -/
theorem patchFunctionsWrapAndClamp : Obligations.PatchFunctionsWrapAndClamp := fun c r p n _ =>
  ⟨fun h => dif_pos h, incPatch_toNat c r p, decPatch_toNat c r p, clampPatch_toNat c r n, rfl⟩

/-- Settles O36: each route is performed (`CanPerform.exec_ofRoute`), and its effect is the state written out. -/
theorem startupRoutesEnterTheirModes : Obligations.StartupRoutesEnterTheirModes := by
  refine ⟨rfl, rfl, rfl, rfl, ?_⟩
  rintro s armed hp rfl
  exact ⟨hp.exec_ofRoute .none, hp.exec_ofRoute .up, hp.exec_ofRoute .mode, hp.exec_ofRoute .down⟩

/-- Settles O39: the new range by `nextRange_toNat`, the clamped patch by `clampPatch_toNat`. -/
theorem rangeChangeClampsThePatch : Obligations.RangeChangeClampsThePatch := by
  refine ⟨rfl, fun s r p hp hr hpatch => ?_⟩
  obtain rfl : nextRange s.range = r := BitVec.eq_of_toNat_eq ((nextRange_toNat s.range).trans hr.symm)
  obtain rfl : clampPatch s.cfg (nextRange s.range) s.patch.toNat = p :=
    BitVec.eq_of_toNat_eq ((clampPatch_toNat ..).trans hpatch.symm)
  exact hp.exec_ofRoute .mode

/-- Settles O40. -/
theorem configDisplayTogglesTheFlag : Obligations.ConfigDisplayTogglesTheFlag := by
  refine ⟨rfl, rfl, ?_⟩
  rintro s t hp rfl
  exact ⟨hp.exec_ofRoute .up, hp.exec_ofRoute .down⟩

/-- Settles O41. -/
theorem timeoutDoesNothingInNormalAndMode2 : Obligations.TimeoutDoesNothingInNormalAndMode2 :=
  ⟨rfl, rfl, fun _ hp => hp.exec_ofRoute .none, fun _ hp => hp.exec_ofRoute .none⟩

/-- Settles O43. -/
theorem normalModeOpensTheJump : Obligations.NormalModeOpensTheJump :=
  ⟨rfl, fun _ hp => hp.exec_ofRoute .mode⟩

/-! ## ConfigExit and SendPatch -/

/-- ConfigExit, whole: the save between the restore call and the display (44_mode_fsm.md R137). -/
theorem configExit_spec (s : State) (h : Memory.wf s.nv = true) :
    ∃ out, ConfigSaved (channelByte s.channel) (rangeByte s.range) (byteOfFlag s.zeroBased) s (configExit s) out
      ∧ configExit s = { s with
          mode := 3, flashArmed := false, intensity := s.cfg.intMax, ind := false, nv := (configExit s).nv,
          cfgErr := (configExit s).cfgErr, outcomes := (configExit s).outcomes, drawIndex := (configExit s).drawIndex,
          trace := s.trace ++ [.action (.dispSetIntensity s.cfg.intMax)] ++ out
            ++ [.action (.dispShowPatch (shownNumber s.zeroBased s.patch.toNat))] } := by
  obtain ⟨out, hsaved, htrace⟩ := configSave_saved s.channel s.range s.zeroBased (stopFlash s) h
  have hframe := (storeEffect_configSave s.channel s.range s.zeroBased (stopFlash s)).frame
  unfold configExit
  dsimp only
  generalize configSave s.channel s.range s.zeroBased (stopFlash s) = u at hsaved htrace hframe ⊢
  refine ⟨out, hsaved, ?_⟩
  show ({ u with mode := 3, trace := u.trace ++ _ } : State) = _
  rw [htrace, hframe]
  rfl

/-- Settles O37: each of the three routes is ConfigExit. -/
theorem configExitSavesAndReturnsToNormal : Obligations.ConfigExitSavesAndReturnsToNormal := by
  refine ⟨rfl, rfl, rfl, fun i s hwf hi => ?_⟩
  have hexec : exec i s = .next (configExit s) := by
    rcases hi with ⟨rfl, hp⟩ | ⟨rfl | rfl, hp⟩
    · exact hp.exec_ofRoute .none
    · exact hp.exec_ofRoute .none
    · exact hp.exec_ofRoute .mode
  obtain ⟨out, hsaved, heq⟩ := configExit_spec s hwf
  rw [BitVec.ofNat_toNat, BitVec.ofNat_toNat]
  exact ⟨_, out, hexec, hsaved, heq⟩

/-- Settles O42: both routes send the stepped patch, and SendPatch is `sendPatch_spec`. -/
theorem normalStepsAndSendsThePatch : Obligations.NormalStepsAndSendsThePatch := by
  refine ⟨rfl, rfl, ?_⟩
  rintro i s p max hp hwf rfl hi
  have hexec : exec i s = .next (stepPatch p s) := by
    rw [← incPatch_toNat, ← decPatch_toNat, BitVec.toNat_inj, BitVec.toNat_inj] at hi
    rcases hi with ⟨rfl, rfl⟩ | ⟨rfl, rfl⟩
    · exact hp.exec_ofRoute .up
    · exact hp.exec_ofRoute .down
  obtain ⟨out, hstored, heq⟩ := sendPatch_spec { s with patch := p } hwf
  exact ⟨_, out, hexec, hstored, heq⟩

/-- Settles O45: SendPatch of the working copy, then the restore call and the change of mode. -/
theorem mode2CommitSendsTheWorkingCopy : Obligations.Mode2CommitSendsTheWorkingCopy := by
  refine ⟨rfl, fun s hp hwf => ?_⟩
  have hexec : exec .routeMode2Mode s = .next ((stopFlash (sendPatch { s with patch := s.work })).goto .normal) :=
    hp.exec_ofRoute .mode
  obtain ⟨out, hstored, heq⟩ := sendPatch_spec { s with patch := s.work } hwf
  generalize sendPatch { s with patch := s.work } = u at hexec hstored heq
  refine ⟨_, out, hexec, hstored, ?_⟩
  have hend : (stopFlash u).goto .normal = { u with
      mode := 3, flashArmed := false, intensity := u.cfg.intMax, ind := false,
      trace := u.trace ++ [.action (.dispSetIntensity u.cfg.intMax)] } := rfl
  rw [hend, heq, List.append_assoc _ [_] [_]]
  rfl

/-! ## Flashing and the attention modes -/

/-- SendPatch writes the activity registers and acts on the store (44_mode_fsm.md R136). -/
theorem sendPatch_frame (s : State) :
    sendPatch s = { s with
      ind := (sendPatch s).ind, actCnt := (sendPatch s).actCnt, nv := (sendPatch s).nv, cfgErr := (sendPatch s).cfgErr,
      outcomes := (sendPatch s).outcomes, drawIndex := (sendPatch s).drawIndex, trace := (sendPatch s).trace } := by
  unfold sendPatch
  dsimp only
  have hact := startActivity_eq (midiSend s.channel s.patch s.range s)
  generalize startActivity (midiSend s.channel s.patch s.range s) = u at hact ⊢
  have hstore : StoreEffect u (if s.cfg.restoreLast then storeLast s.patch u else u) := by
    split
    · exact storeEffect_storeLast _ _
    · exact StoreEffect.rfl' _
  generalize (if s.cfg.restoreLast then storeLast s.patch u else u) = v at hstore ⊢
  have hframe := hstore.frame
  rw [hact] at hframe
  rw [hframe]
  rfl

/-- ConfigExit leaves the controller disarmed (44_mode_fsm.md R137). -/
theorem configExit_flashArmed (s : State) : (configExit s).flashArmed = false := by
  show (configSave s.channel s.range s.zeroBased (stopFlash s)).flashArmed = false
  rw [(storeEffect_configSave s.channel s.range s.zeroBased (stopFlash s)).frame]
  rfl

/-- A route arms flashing exactly when it leads into an attention mode (43_flash.md R126). -/
theorem armed_performRoute {m : Mode} {s : State} (ev : Event) (hm : s.mode = m.code) (harmed : s.flashArmed = attentionMode s.mode) :
    (performRoute m ev s).flashArmed = attentionMode (performRoute m ev s).mode := by
  have hstep : ∀ p, (stepPatch p s).flashArmed = attentionMode (stepPatch p s).mode := fun p => by
    unfold stepPatch
    rw [sendPatch_frame]
    exact harmed
  cases m <;> cases ev
  case startupConfig.none =>
    rw [hm] at harmed
    exact harmed
  case startupConfig.up | startupConfig.down | startupConfig.mode | normal.mode | mode2.mode => rfl
  case configChannel.none | configDisplay.none | configDisplay.mode => exact configExit_flashArmed s
  case configChannel.up | configChannel.down | configChannel.mode | configDisplay.up | configDisplay.down | normal.none | mode2.none
      | mode2.up | mode2.down => exact harmed
  case normal.up | normal.down => exact hstep _

/-- Settles O54: a route by `armed_performRoute`; BOOT leads from StartupConfig to StartupConfig; a calm operation but FSTART and FSTOP
writes neither register. -/
theorem flashingIsArmedExactlyInAttentionModes : Obligations.FlashingIsArmedExactlyInAttentionModes := by
  refine ⟨⟨rfl, fun _ => rfl⟩, fun i s t hstart hstop h hexec => ?_⟩
  rcases exec_route_or_boot_or_calm hexec with ⟨m, ev, s', _, hp, hs', rfl⟩ | ⟨hb, rfl⟩ | ⟨hcalm, harmed⟩
  · have hboot : (performRoute m ev s').booted = true := by
      rw [(routeEffect_performRoute m ev s').frame]
      rcases hs' with rfl | rfl <;> exact hp.booted
    refine ⟨armed_performRoute ev ?_ ?_, fun hn => absurd (hboot.symm.trans hn) (by decide)⟩
    · rcases hs' with rfl | rfl <;> exact hp.mode
    · rcases hs' with rfl | rfl <;> exact h.armed
  · have harmed := h.armed
    rw [h.fresh hb] at harmed
    rw [bootUp_eq]
    exact ⟨harmed, fun _ => rfl⟩
  · exact ⟨by rw [harmed hstart hstop, hcalm.mode, h.armed], fun hb => hcalm.mode.trans (h.fresh (hcalm.booted.symm.trans hb))⟩

end Sys2Proof.Machine

/-! The debounce engine: SBEGIN, EVAL's cases RELEASE and COMBINED, PEND, and what no sequence of operations makes a scan return
(42_debounce.md). -/
namespace Sys2Proof.Machine

/-! ## The pins -/

theorem combined_iff (c : Config) (r : Role) (pins : Pins) : combined c r pins = true ↔
    c.nPhys = 2 ∧ (r = .up ∨ r = .down) ∧ pins.getLsbD 0 = true ∧ pins.getLsbD 1 = true := by
  cases r <;> simp [combined, isPhysical, bothPins, pinOf]

/-- A switch that takes part in a combined press reads asserted (42_debounce.md R102). -/
theorem asserted_of_combined {c : Config} {r : Role} {pins : Pins} (h : combined c r pins = true) : asserted c r pins = true := by
  obtain ⟨_, rfl | rfl, hup, hdown⟩ := (combined_iff c r pins).mp h
  · exact hup
  · exact hdown

/-- Settles O17. -/
theorem switchReadsItsPin : Obligations.SwitchReadsItsPin := fun c pins =>
  ⟨rfl, rfl, fun h => if_neg h, fun h => if_pos h, fun r => combined_iff c r pins⟩

/-! ## SBEGIN, EVAL and PEND by themselves -/

/-- SBEGIN's word in the statement's form (30_encoding.md R72). -/
theorem sbeginWord_eq (n : BitVec 16) (ar : Bool) :
    0x10000000#32 ||| (BitVec.ofBool ar).setWidth 32 <<< 16 ||| n.setWidth 32 = 0x10#8 ++ 0#7 ++ BitVec.ofBool ar ++ n := by
  refine BitVec.eq_of_getLsbD_eq fun i hi => ?_
  rw [BitVec.getLsbD_or, BitVec.getLsbD_setWidth, BitVec.getLsbD_append]
  by_cases h : i < 16
  · have hzero : ∀ b, ∀ j < 16, (0x10000000#32 ||| (BitVec.ofBool b).setWidth 32 <<< 16).getLsbD j = false := by decide
    rw [hzero ar i h, if_pos h, decide_eq_true hi, Bool.false_or, Bool.true_and]
  · have hout : n.getLsbD i = false := BitVec.getLsbD_of_ge n i (Nat.le_of_not_lt h)
    rw [hout, if_neg h, Bool.and_false, Bool.or_false]
    interval_cases i <;> cases ar <;> rfl

/-- Settles O15. -/
theorem sbeginBeginsAScan : Obligations.SbeginBeginsAScan := by
  intro len ar s
  have hword : decodeOp (0x10000000 ||| ((BitVec.ofBool ar).setWidth 32 <<< 16) ||| len.setWidth 32) = .ok (.sbegin len ar) :=
    (congrArg decodeOp (sbeginWord_eq len ar)).trans (decodeOp_encode_sbegin len ar)
  exact ⟨hword, fun h => if_neg (by simp [h]), fun h => if_pos h⟩

/-- Settles O16: the position is tested before the records (log entry 20). -/
theorem evalIsRefusedWhenNotDue : Obligations.EvalIsRefusedWhenNotDue := by
  refine fun pins s => ⟨fun hno => ?_, fun ha hi hcode => ?_⟩
  · exact if_neg (by rcases hno with h | h <;> simp [h])
  · have hdue : (s.scanActive && s.scanIdx != 3) = true := by rw [ha, bne_iff_ne.mpr hi]; rfl
    have hillegal : ¬ s.sw.legal = true := by
      rw [SwitchFile.legal_iff]
      rintro ⟨hu, hd, hm⟩
      rcases hcode with h | h | h
      · exact hu h
      · exact hd h
      · exact hm h
    exact (if_pos hdue).trans (if_neg hillegal)

/-- Settles O22: a switch that reads deasserted is in no combined press, so the dispatch comes to RELEASE. -/
theorem releaseIsImmediate : Obligations.ReleaseIsImmediate := by
  intro r pins s hd ha
  have hc : ¬ combined s.cfg r pins = true := fun hc => absurd (ha.symm.trans (asserted_of_combined hc)) (by decide)
  calc exec (.eval pins) s = .next (evalSwitch r s.ms pins s) := hd.exec_eq pins
    _ = .next (evalRelease r s) := by rw [evalSwitch, if_neg hc, if_pos (by simp [ha])]
    _ = _ := rfl

/-- Settles O23: the first case of the dispatch. -/
theorem combinedPressReleasesBothSwitches : Obligations.CombinedPressReleasesBothSwitches := by
  intro r pins s hd hn hr hup hdown
  have hc : combined s.cfg r pins = true := (combined_iff ..).mpr ⟨hn, by cases r <;> simp_all, hup, hdown⟩
  calc exec (.eval pins) s = .next (evalSwitch r s.ms pins s) := hd.exec_eq pins
    _ = .next (evalCombined s) := by rw [evalSwitch, if_pos hc]
    _ = _ := rfl

theorem timedOut_iff (width now start : Nat) (timeout : BitVec 16) :
    timedOut width now start timeout = true ↔ timeout ≠ 0 ∧ timeout.toNat ≤ elapsed width now start := by
  simp [timedOut]

theorem refreshIntensity_eq (s : State) :
    refreshIntensity s = { s with
      trace := s.trace ++ if s.flashArmed then [.action (.dispSetIntensity s.intensity)] else [] } := by
  unfold refreshIntensity
  split
  · rfl
  · rw [List.append_nil]

/-- Settles O24: the refresh, then the timeout test on either side. -/
theorem pendEndsTheIteration : Obligations.PendEndsTheIteration := by
  rintro s refresh rfl
  have hexec : s.scanActive = true → s.scanIdx = 3 → exec .pend s = .next (endIteration s) := fun ha hi =>
    if_pos (by simp [ha, hi])
  refine ⟨fun ha hi hne hle => ?_, fun ha hi hno => ?_, fun hno => if_neg fun hdue => ?_⟩
  · rw [hexec ha hi, endIteration, if_pos ((timedOut_iff ..).mpr ⟨hne, hle⟩), refreshIntensity_eq]
    rfl
  · have hin : ¬ timedOut s.cfg.width s.ms s.scanStart s.scanTimeout = true := by
      rw [timedOut_iff]
      rintro ⟨hne, hle⟩
      exact hno.elim hne fun hlt => absurd hle (Nat.not_le_of_lt hlt)
    rw [hexec ha hi, endIteration, if_neg hin, refreshIntensity_eq]
    rfl
  · obtain ⟨ha, hi⟩ : s.scanActive = true ∧ s.scanIdx = 3 := by simpa using hdue
    exact hno.elim (fun h => absurd (ha.symm.trans h) (by decide)) fun h => h hi

/-! ## Who returns an activation -/

/-- The result is a switch's activation only if it is that switch's event (30_encoding.md R76). -/
theorem activated_eq (r : Role) (s : State) : activated r s = (s.scanDone && s.scanResult == r.event) := by cases r <;> rfl

theorem activated_of_scanDone {r : Role} {s : State} (h : s.scanDone = false) : activated r s = false := by
  rw [activated_eq, h, Bool.false_and]

/-- A step that evaluates no switch: the records stay, and no activation appears. -/
structure NoEvaluation (s t : State) : Prop where
  sw : t.sw = s.sw
  inactive : ∀ r, activated r s = false → activated r t = false

theorem noEvaluation_endIteration (s : State) : NoEvaluation s (endIteration s) := by
  unfold endIteration
  rw [refreshIntensity_eq]
  split
  · exact ⟨rfl, fun r _ => by cases r <;> rfl⟩
  · exact ⟨rfl, fun r h => h⟩

/-- A step evaluates one switch with the pins it samples, or none (42_debounce.md R112). -/
theorem exec_evaluates_or_not {i : Instr} {s t : State} (h : exec i s = .next t) :
    (∃ pins q, pinsSampled i = some pins ∧ t = evalSwitch q s.ms pins s) ∨ NoEvaluation s t := by
  cases exec_effect h
  case eval pins hi _ _ _ =>
    refine .inl ⟨pins, _, ?_, rfl⟩
    rcases hi with rfl | rfl <;> rfl
  case pend => exact .inr (noEvaluation_endIteration s)
  case tick =>
    rw [tickActivity_frame, tickFlash_frame]
    exact .inr ⟨rfl, fun _ h => h⟩
  case dload | dwait | fstart | fstop => exact .inr ⟨rfl, fun _ h => h⟩
  case sbegin => exact .inr ⟨rfl, fun _ _ => activated_of_scanDone rfl⟩
  case act =>
    rw [startActivity_eq]
    exact .inr ⟨rfl, fun _ h => h⟩
  case boot =>
    rw [bootUp_eq]
    exact .inr ⟨rfl, fun _ h => h⟩
  case event m ev _ _ =>
    rw [(routeEffect_deliver m ev s).frame]
    exact .inr ⟨rfl, fun _ _ => activated_of_scanDone rfl⟩
  case route m ev _ _ =>
    rw [(routeEffect_performRoute m ev s).frame]
    exact .inr ⟨rfl, fun _ h => h⟩

theorem Role.event_inj {q r : Role} : q.event = r.event → q = r := by cases q <;> cases r <;> decide

theorem activated_qualify_other {q r : Role} (h : q ≠ r) (s : State) : activated r (qualify q s) = false := by
  have hev : (q.event == r.event) = false := beq_eq_false_iff_ne.mpr fun e => h (Role.event_inj e)
  rw [activated_eq]
  exact hev

/-- COMBINED releases a physical switch and leaves Mode (42_debounce.md R109). -/
theorem get_evalCombined (r : Role) (s : State) :
    (evalCombined s).sw.get r
      = if isPhysical r then { s.sw.get r with st := SwitchState.released.code } else s.sw.get r := by
  cases r <;> rfl

/-- An evaluation of another switch returns another event, and leaves the record, or releases it in a combined press
(42_debounce.md R102, R109). -/
theorem evalSwitch_other {q r : Role} (hq : q ≠ r) (pins : Pins) (s : State) :
    (activated r s = false → activated r (evalSwitch q s.ms pins s) = false)
      ∧ ((evalSwitch q s.ms pins s).sw.get r = s.sw.get r
        ∨ combined s.cfg r pins = true
          ∧ (evalSwitch q s.ms pins s).sw.get r = { s.sw.get r with st := SwitchState.released.code }) := by
  have hkeep : ∀ x, (s.sw.set q x).get r = s.sw.get r := fun x => by rw [SwitchFile.get_set, if_neg (Ne.symm hq)]
  rcases evalSwitch_cases q s.ms pins s with ⟨hc, he⟩ | ⟨_, he⟩ | ⟨_, he⟩ | ⟨_, he⟩ | ⟨_, he⟩ | ⟨_, he⟩ <;> rw [he]
  case inl =>
    refine ⟨fun h => h, ?_⟩
    rw [get_evalCombined]
    split
    case isTrue hphys =>
      obtain ⟨hn, _, hpins⟩ := (combined_iff ..).mp hc
      exact .inr ⟨(combined_iff ..).mpr ⟨hn, by cases r <;> simp_all [isPhysical], hpins⟩, rfl⟩
    case isFalse => exact .inl rfl
  case inr.inl => exact ⟨fun h => h, .inl (hkeep _)⟩
  case inr.inr.inl => exact ⟨fun h => h, .inl (hkeep _)⟩
  case inr.inr.inr.inl =>
    unfold evalConfirm
    split
    · exact ⟨fun _ => activated_qualify_other hq _, .inl (hkeep _)⟩
    · exact ⟨fun h => h, .inl rfl⟩
  case inr.inr.inr.inr.inl =>
    unfold evalRepeat
    dsimp only
    split
    · exact ⟨fun _ => activated_qualify_other hq _, .inl (hkeep _)⟩
    · exact ⟨fun h => h, .inl rfl⟩
  case inr.inr.inr.inr.inr => exact ⟨fun h => h, .inl rfl⟩

theorem evalSwitch_ms (q : Role) (now : Nat) (pins : Pins) (s : State) : (evalSwitch q now pins s).ms = s.ms := by
  rw [evalSwitch_frame]

theorem evalSwitch_cfg (q : Role) (now : Nat) (pins : Pins) (s : State) : (evalSwitch q now pins s).cfg = s.cfg := by
  rw [evalSwitch_frame]

/-! ## A short press -/

/-- The switch is not confirmed: released, or pressed for `k` ticks at most; and the scan has not returned its event. -/
structure Unconfirmed (r : Role) (k : Nat) (s : State) : Prop where
  inactive : activated r s = false
  record : (s.sw.get r).st = 0 ∨ (s.sw.get r).st = 1 ∧ elapsed s.cfg.width s.ms (s.sw.get r).downSince ≤ k

/-- An evaluation within the debounce threshold confirms nothing (42_debounce.md R104). -/
theorem Unconfirmed.evalSwitch {r : Role} {k : Nat} {s : State} (h : Unconfirmed r k s) (hk : k ≤ s.cfg.debounceMs.toNat)
    (q : Role) (pins : Pins) : Unconfirmed r k (evalSwitch q s.ms pins s) := by
  by_cases hq : q = r
  case neg =>
    obtain ⟨hact, hrec⟩ := evalSwitch_other hq pins s
    refine ⟨hact h.inactive, ?_⟩
    rw [evalSwitch_ms, evalSwitch_cfg]
    rcases hrec with hrec | ⟨_, hrec⟩ <;> rw [hrec]
    · exact h.record
    · exact .inl rfl
  subst hq
  have hset : ∀ x, (s.sw.set q x).get q = x := fun x => by rw [SwitchFile.get_set, if_pos rfl]
  rcases evalSwitch_cases q s.ms pins s with ⟨hc, he⟩ | ⟨_, he⟩ | ⟨_, he⟩ | ⟨⟨_, _, hst⟩, he⟩ | ⟨⟨_, _, h0, h1, _⟩, _⟩
    | ⟨⟨_, _, h0, h1, _⟩, _⟩
  · obtain ⟨_, hphys, _⟩ := (combined_iff ..).mp hc
    rw [he]
    refine ⟨h.inactive, .inl ?_⟩
    rw [get_evalCombined, if_pos (by rcases hphys with rfl | rfl <;> rfl)]
    rfl
  · rw [he]
    exact ⟨h.inactive, .inl (congrArg Switch.st (hset _))⟩
  · rw [he]
    refine ⟨h.inactive, .inr ⟨congrArg Switch.st (hset _), ?_⟩⟩
    show elapsed s.cfg.width s.ms ((s.sw.set q _).get q).downSince ≤ k
    rw [hset, elapsed_self]
    exact Nat.zero_le k
  · have hle : elapsed s.cfg.width s.ms (s.sw.get q).downSince ≤ k :=
      (h.record.resolve_left fun h0 => absurd (h0.symm.trans hst) (by decide)).2
    rw [he, evalConfirm_eq, if_neg (by omega)]
    exact ⟨h.inactive, h.record⟩
  · exact (h.record.elim h0 fun h' => h1 h'.1).elim
  · exact (h.record.elim h0 fun h' => h1 h'.1).elim

/-- Any step within the threshold; a TICK counts (41_time_base.md R90). -/
theorem Unconfirmed.exec {r : Role} {k : Nat} {i : Instr} {s t : State} (h : Unconfirmed r k s) (hk : k ≤ s.cfg.debounceMs.toNat)
    (he : exec i s = .next t) : Unconfirmed r (if i = .tick then k + 1 else k) t := by
  rcases exec_evaluates_or_not he with ⟨pins, q, hpins, rfl⟩ | hno
  · have hi : i ≠ .tick := by rintro rfl; cases hpins
    rw [if_neg hi]
    exact h.evalSwitch hk q pins
  refine ⟨hno.inactive r h.inactive, ?_⟩
  rw [hno.sw, (exec_stepFrame he).cfg]
  split
  case isTrue hi =>
    subst hi
    obtain ⟨u, hu, hframe⟩ := execTick_frame s
    obtain rfl : u = t := by cases hu.symm.trans he; rfl
    have hms : u.ms = nextMs s.cfg.width s.ms := by rw [hframe]
    rw [hms]
    exact h.record.imp_right fun h' => ⟨h'.1, (elapsed_nextMs_le ..).trans (Nat.succ_le_succ h'.2)⟩
  case isFalse hi =>
    rw [(exec_stepFrame he).ms hi]
    exact h.record

/-- Settles O25: while the TICKs so far are within the threshold the switch is not confirmed. -/
theorem shortPressNeverActivates : Obligations.ShortPressNeverActivates := by
  intro r ops s t _ hst hact hcount h
  have key := runOps_ticks (k := 0) (t := t)
    (P := fun k u => u.cfg = s.cfg ∧ (k ≤ s.cfg.debounceMs.toNat → Unconfirmed r k u)) (fun i _ k u v hu hv => ?_)
    ⟨rfl, fun _ => ⟨hact, .inl hst⟩⟩ h
  · rw [Nat.zero_add] at key
    exact (key.2 hcount).inactive
  obtain ⟨hcfg, hun⟩ := hu
  refine ⟨(exec_stepFrame hv).cfg.trans hcfg, fun hk => ?_⟩
  have hk' : k ≤ s.cfg.debounceMs.toNat := by split at hk <;> omega
  exact (hun hk').exec (by rwa [hcfg]) hv

/-! ## A long hold -/

/-- A confirmed switch that reads asserted, autorepeat not applying: whichever switch is evaluated, its record and the absence of its
event stay (42_debounce.md R105). -/
theorem evalSwitch_held {r : Role} {pins : Pins} {s : State} (q : Role) (hst : (s.sw.get r).st = 2)
    (ha : asserted s.cfg r pins = true) (hc : combined s.cfg r pins = false) (hrep : repeats s.cfg s.scanAr r = false)
    (hact : activated r s = false) :
    (evalSwitch q s.ms pins s).sw.get r = s.sw.get r ∧ activated r (evalSwitch q s.ms pins s) = false := by
  by_cases hq : q = r
  · subst hq
    have heval : evalSwitch q s.ms pins s = evalHeld s := by simp [evalSwitch_of_asserted _ hc ha, hst, hrep]
    rw [heval]
    exact ⟨rfl, hact⟩
  · obtain ⟨hkeep, hrec⟩ := evalSwitch_other hq pins s
    exact ⟨hrec.resolve_right fun h => absurd (hc.symm.trans h.1) (by decide), hkeep hact⟩

/-- Settles O26: every evaluation leaves the record (`evalSwitch_held`), and no other step writes it. -/
theorem holdWithoutAutorepeatYieldsNothingMore : Obligations.HoldWithoutAutorepeatYieldsNothingMore := by
  intro r ops s t hst hact hpins htest h
  have key := runOps_throughout (P := fun u => u.cfg = s.cfg ∧ u.sw.get r = s.sw.get r ∧ activated r u = false)
    (fun i hi u v hrep hu hv => ?_) htest ⟨rfl, rfl, hact⟩ h
  · exact key.2
  obtain ⟨hcfg, hrec, hinact⟩ := hu
  refine ⟨(exec_stepFrame hv).cfg.trans hcfg, ?_⟩
  rcases exec_evaluates_or_not hv with ⟨pins, q, hsampled, rfl⟩ | hno
  · obtain ⟨ha, hc⟩ := hpins i hi pins hsampled
    rw [← hcfg] at ha hc
    have hno : repeats u.cfg u.scanAr r = false := by
      rw [repeats, ← Bool.not_eq_true', Bool.not_and]
      exact hrep
    rw [← hrec] at hst ⊢
    exact evalSwitch_held q hst ha hc hno hinact
  · exact ⟨by rw [hno.sw, hrec], hno.inactive r hinact⟩

/-! ## A combined press -/

/-- With both pins asserted Up and Down are evaluated as COMBINED, and Mode returns its own event (42_debounce.md R109). -/
theorem evalSwitch_both {r : Role} {pins : Pins} {s : State} (q : Role) (hr : r ≠ .mode) (hn : s.cfg.nPhys = 2)
    (hup : pins.getLsbD 0 = true) (hdown : pins.getLsbD 1 = true) (hact : activated r s = false) :
    activated r (evalSwitch q s.ms pins s) = false := by
  by_cases hq : q = r
  · subst hq
    have hc : combined s.cfg q pins = true := (combined_iff ..).mpr ⟨hn, by cases q <;> simp_all, hup, hdown⟩
    rw [evalSwitch, if_pos hc]
    exact hact
  · exact (evalSwitch_other hq pins s).1 hact

/-- Settles O27. -/
theorem combinedPressNeverActivatesOneSwitch : Obligations.CombinedPressNeverActivatesOneSwitch := by
  intro ops s t hn hup hdown hpins h
  have key : ∀ r, r ≠ .mode → activated r s = false → activated r t = false := fun r hr hact =>
    (runOps_ticks (k := 0) (P := fun _ u => u.cfg = s.cfg ∧ activated r u = false) (fun i hi _ u v hu hv => by
      obtain ⟨hcfg, hinact⟩ := hu
      refine ⟨(exec_stepFrame hv).cfg.trans hcfg, ?_⟩
      rcases exec_evaluates_or_not hv with ⟨pins, q, hsampled, rfl⟩ | hno
      · obtain ⟨h0, h1⟩ := hpins i hi pins hsampled
        exact evalSwitch_both q hr (hcfg ▸ hn) h0 h1 hinact
      · exact hno.inactive r hinact) ⟨rfl, hact⟩ h).2
  exact ⟨key .up (by decide) hup, key .down (by decide) hdown⟩

end Sys2Proof.Machine

/-! The store: one byte write, and the second save of a configuration (20_memory.md R53, R57; 45_collaborators.md R178). -/
namespace Sys2Proof.Machine

/-- Settles O48: the byte that stands is the one the outcome names, and the verification compares it with the byte written. -/
theorem byteWriteIsVerified : Obligations.ByteWriteIsVerified := by
  intro o v s hwf
  have hsame := read_memWrite_same s o v hwf
  refine ⟨fun hok => ?_, fun b hfail => ?_, ?_, fun off => read_memWrite_other s o v off, ?_⟩
  · rw [hsame, State.byteWritten, hok, byteLeft]
  · rw [hsame, State.byteWritten, hfail, byteLeft]
  · rw [hsame, State.writeResult]
    by_cases h : s.byteWritten v = v
    · exact .inl ⟨h, if_pos h⟩
    · exact .inr ⟨h, if_neg h⟩
  · rw [hsame, ← memWrite_trace, memWrite_eq]

/-- A save that reported no failure left the three bytes of the configuration in the store (45_collaborators.md R178). -/
theorem configDiffers_configSave {c : BitVec 4} {r : BitVec 3} {z : Bool} {s : State} (hwf : Memory.wf s.nv = true)
    (hok : (configSave c r z s).cfgErr = false) : configDiffers c r z (configSave c r z s) = false := by
  rw [configDiffers_eq_false]
  obtain ⟨out, hsaved, _⟩ := configSave_saved c r z s hwf
  unfold ConfigSaved at hsaved
  dsimp only at hsaved
  split at hsaved
  case isTrue hsame =>
    obtain ⟨_, hstore, _, _⟩ := hsaved
    rwa [hstore 0, hstore 1, hstore 4]
  case isFalse =>
    obtain ⟨_, _, herr⟩ := hsaved
    rw [hok] at herr
    have hbytes := herr.symm
    simp only [Bool.or_eq_false_iff, bne_eq_false_iff_eq] at hbytes
    obtain ⟨⟨⟨_, h0⟩, h1⟩, h4⟩ := hbytes
    exact ⟨h0.symm, h1.symm, h4.symm⟩

/-- Settles O49: after the first save nothing differs, so the second only reads. -/
theorem secondSaveWritesNothing : Obligations.SecondSaveWritesNothing := by
  rintro c r z s t hwf rfl hok
  have hsame := configDiffers_configSave hwf hok
  generalize configSave c r z s = t at hsame ⊢
  rw [configSave, if_neg (by simp [hsame]), readConfig_eq]

end Sys2Proof.Machine

/-! Two comparisons of runs: with every time shifted (41_time_base.md R94), and with the registers that reset leaves unspecified
cleared (10_state.md R33). Both compare the performance of one instruction in two states that take the same decisions. -/
namespace Sys2Proof.Machine

/-! ## One instruction in two states -/

/-- The results are related next states, or the same refusal. -/
inductive ResultRel (R : State → State → Prop) : Result → Result → Prop where
  | next {t t' : State} : R t t' → ResultRel R (.next t) (.next t')
  | refused (r : Refusal) : ResultRel R (.refused r) (.refused r)

/-- The registers by which an instruction is accepted, refused or selected agree. -/
structure SameControl (s s' : State) : Prop where
  cfg : s'.cfg = s.cfg
  booted : s'.booted = s.booted
  mode : s'.mode = s.mode
  range : s'.range = s.range
  delayCnt : s'.delayCnt = s.delayCnt
  scanActive : s'.scanActive = s.scanActive
  scanIdx : s'.scanIdx = s.scanIdx
  scanDone : s'.scanDone = s.scanDone
  scanResult : s'.scanResult = s.scanResult
  legal : s'.sw.legal = s.sw.legal

/-- Each effect an instruction can have is related in the two states. -/
structure EffectsRelated (R : State → State → Prop) (s s' : State) : Prop where
  tick : R (tickActivity (tickFlash (tickTimeBase s))) (tickActivity (tickFlash (tickTimeBase s')))
  dload : ∀ n, R { s with delayCnt := n } { s' with delayCnt := n }
  dwait : ∀ b, R { s with held := b } { s' with held := b }
  sbegin : ∀ len ar, R (beginScan len ar s) (beginScan len ar s')
  eval : ∀ q pins, R (evalSwitch q s.ms pins s) (evalSwitch q s'.ms pins s')
  pend : s.scanActive = true → R (endIteration s) (endIteration s')
  fstart : R (startFlash s) (startFlash s')
  fstop : R (stopFlash s) (stopFlash s')
  act : R (startActivity s) (startActivity s')
  boot : R (bootUp s) (bootUp s')
  deliver : ∀ m ev, R (deliver m ev s) (deliver m ev s')
  route : ∀ m ev, R (performRoute m ev s) (performRoute m ev s')

section Congruence

variable {R : State → State → Prop} {s s' : State}

theorem EffectsRelated.execSbegin (h : EffectsRelated R s s') (hc : SameControl s s') (len : BitVec 16) (ar : Bool) :
    ResultRel R (execSbegin len ar s) (execSbegin len ar s') := by
  unfold Machine.execSbegin
  rw [hc.scanActive]
  split
  · exact .refused _
  · exact .next (h.sbegin len ar)

theorem EffectsRelated.execEval (h : EffectsRelated R s s') (hc : SameControl s s') (pins : Pins) :
    ResultRel R (execEval pins s) (execEval pins s') := by
  unfold Machine.execEval
  rw [hc.scanActive, hc.scanIdx, hc.legal, hc.cfg]
  split
  · split
    · exact .next (h.eval _ pins)
    · exact .refused _
  · exact .refused _

theorem EffectsRelated.execPend (h : EffectsRelated R s s') (hc : SameControl s s') : ResultRel R (execPend s) (execPend s') := by
  unfold Machine.execPend
  rw [hc.scanActive, hc.scanIdx]
  split
  case isTrue hdue => exact .next (h.pend (Bool.and_eq_true_iff.mp hdue).1)
  case isFalse => exact .refused _

theorem EffectsRelated.execBoot (h : EffectsRelated R s s') (hc : SameControl s s') : ResultRel R (execBoot s) (execBoot s') := by
  unfold Machine.execBoot
  rw [hc.booted]
  split
  · exact .refused _
  · exact .next h.boot

theorem EffectsRelated.execEvent (h : EffectsRelated R s s') (hc : SameControl s s') (ev : Event) :
    ResultRel R (execEvent ev s) (execEvent ev s') := by
  unfold Machine.execEvent
  rw [hc.booted, hc.scanActive, hc.mode, hc.range]
  split
  · split
    · split
      · exact .next (h.deliver _ ev)
      · exact .refused _
    · exact .refused _
  · exact .refused _

theorem EffectsRelated.execFstep (h : EffectsRelated R s s') (hc : SameControl s s') (pins : Pins) :
    ResultRel R (execFstep pins s) (execFstep pins s') := by
  have hbegin : ResultRel R (beginModeScan s) (beginModeScan s') := by
    unfold beginModeScan
    rw [hc.mode, hc.cfg]
    split
    · exact h.execSbegin hc _ _
    · exact .refused _
  unfold Machine.execFstep
  rw [hc.booted, hc.scanDone, hc.scanActive, hc.scanIdx, hc.scanResult]
  split
  · exact h.execBoot hc
  split
  · exact h.execEvent hc _
  split
  · exact h.execEval hc pins
  split
  · exact h.execPend hc
  · exact hbegin

theorem EffectsRelated.execDload (h : EffectsRelated R s s') (hc : SameControl s s') (n : BitVec 16) :
    ResultRel R (execDload n s) (execDload n s') := by
  unfold Machine.execDload
  rw [hc.delayCnt]
  split
  · exact .next (h.dload n)
  · exact .refused _

theorem EffectsRelated.execDwait (h : EffectsRelated R s s') (hc : SameControl s s') :
    ResultRel R (execDwait s) (execDwait s') := by
  by_cases h0 : s.delayCnt = 0
  · rw [Machine.execDwait, Machine.execDwait, if_pos h0, if_pos (hc.delayCnt.trans h0)]
    exact .next (h.dwait false)
  · rw [Machine.execDwait, Machine.execDwait, if_neg h0, if_neg fun e => h0 (hc.delayCnt.symm.trans e)]
    exact .next (h.dwait true)

theorem EffectsRelated.whenSelected (h : EffectsRelated R s s') (hc : SameControl s s') (m : Mode) (ev : Event) :
    ResultRel R (whenSelected m s (performRoute m ev s)) (whenSelected m s' (performRoute m ev s')) := by
  unfold Machine.whenSelected routeSelected
  rw [hc.booted, hc.scanActive, hc.mode, hc.range]
  split
  · split
    · exact .next (h.route m ev)
    · exact .refused _
  · exact .refused _

/-- Where the decisions are the same and every effect is related, so are the results of every instruction. -/
theorem EffectsRelated.exec (h : EffectsRelated R s s') (hc : SameControl s s') (i : Instr) :
    ResultRel R (exec i s) (exec i s') := by
  rcases Instr.operation_or_route i with hi | ⟨m, ev, rfl⟩
  case inr =>
    rw [exec_ofRoute, exec_ofRoute]
    exact h.whenSelected hc m ev
  cases i
  case tick => exact .next h.tick
  case dload n => exact h.execDload hc n
  case dwait => exact h.execDwait hc
  case sbegin len ar => exact h.execSbegin hc len ar
  case eval pins => exact h.execEval hc pins
  case pend => exact h.execPend hc
  case fstart => exact .next h.fstart
  case fstop => exact .next h.fstop
  case act => exact .next h.act
  case boot => exact h.execBoot hc
  case event ev => exact h.execEvent hc ev
  case fstep pins => exact h.execFstep hc pins
  all_goals cases hi

end Congruence

/-! ## The routes read no time -/

/-- The state with other times, other switch records and another flash countdown. -/
def State.retime (s : State) (ms : Nat) (sw : SwitchFile) (scanStart : Nat) (flashCnt : BitVec 16) : State :=
  { s with ms := ms, sw := sw, scanStart := scanStart, flashCnt := flashCnt }

section Retime

variable (s : State) (a : Nat) (f : SwitchFile) (b : Nat) (n : BitVec 16)

theorem retime_emit (x : Action) : (s.retime a f b n).emit x = (s.emit x).retime a f b n := rfl

theorem retime_writeResult (v : Byte) : (s.retime a f b n).writeResult v = s.writeResult v := rfl

theorem retime_dropOutcome : (s.retime a f b n).dropOutcome = s.dropOutcome.retime a f b n := by
  unfold State.dropOutcome State.retime
  cases s.outcomes <;> rfl

theorem retime_memWrite (o : NvOffset) (v : Byte) : (s.retime a f b n).memWrite o v = (s.memWrite o v).retime a f b n := by
  rw [memWrite_eq, memWrite_eq, retime_dropOutcome]
  rfl

theorem retime_noteFailures (rs : List WriteResult) : (s.retime a f b n).noteFailures rs = (s.noteFailures rs).retime a f b n := by
  rw [noteFailures_eq, noteFailures_eq]
  rfl

theorem retime_configSave (c : BitVec 4) (r : BitVec 3) (z : Bool) :
    configSave c r z (s.retime a f b n) = (configSave c r z s).retime a f b n := by
  have hread : readConfig (s.retime a f b n) = (readConfig s).retime a f b n := rfl
  have hwrite : writeConfig c r z ((readConfig s).retime a f b n) = (writeConfig c r z (readConfig s)).retime a f b n := by
    simp only [writeConfig, retime_emit, retime_memWrite, retime_writeResult, retime_noteFailures]
  have hdiffers : configDiffers c r z (s.retime a f b n) = configDiffers c r z s := rfl
  rw [configSave, configSave, hdiffers, hread, hwrite]
  split <;> rfl

theorem retime_storeLast (p : BitVec 14) : storeLast p (s.retime a f b n) = (storeLast p s).retime a f b n := by
  have hread : readLast (s.retime a f b n) = (readLast s).retime a f b n := rfl
  have hwrite : writeLast p ((readLast s).retime a f b n) = (writeLast p (readLast s)).retime a f b n := by
    simp only [writeLast, retime_emit, retime_memWrite, retime_writeResult, retime_noteFailures]
  have hstored : storedLast (s.retime a f b n) = storedLast s := rfl
  rw [storeLast, storeLast, hstored, hread, hwrite]
  split <;> rfl

theorem retime_startActivity : startActivity (s.retime a f b n) = (startActivity s).retime a f b n := by
  rw [startActivity_eq, startActivity_eq]
  rfl

theorem retime_sendPatch : sendPatch (s.retime a f b n) = (sendPatch s).retime a f b n := by
  have hmidi : midiSend s.channel s.patch s.range (s.retime a f b n) = (midiSend s.channel s.patch s.range s).retime a f b n := rfl
  show State.emit (if s.cfg.restoreLast then
      storeLast s.patch (startActivity (midiSend s.channel s.patch s.range (s.retime a f b n)))
    else startActivity (midiSend s.channel s.patch s.range (s.retime a f b n))) _ = _
  rw [hmidi, retime_startActivity, retime_storeLast, sendPatch]
  split <;> rfl

theorem retime_configExit : configExit (s.retime a f b n) = (configExit s).retime a f b n := by
  have hstop : stopFlash (s.retime a f b n) = (stopFlash s).retime a f b n := rfl
  show ((configSave s.channel s.range s.zeroBased (stopFlash (s.retime a f b n))).goto .normal).emit _ = _
  rw [hstop, retime_configSave]
  rfl

/-- A route carries the other times and records through. It sets the countdown, or leaves it and arms nothing. -/
theorem retime_performRoute (m : Mode) (ev : Event) :
    performRoute m ev (s.retime a f b n) = (performRoute m ev s).retime a f b (performRoute m ev s).flashCnt
      ∨ performRoute m ev (s.retime a f b n) = (performRoute m ev s).retime a f b n
        ∧ (performRoute m ev s).flashCnt = s.flashCnt
        ∧ ((performRoute m ev s).flashArmed = true → s.flashArmed = true) := by
  have hstep : ∀ p, stepPatch p (s.retime a f b n) = (stepPatch p s).retime a f b n
      ∧ (stepPatch p s).flashCnt = s.flashCnt ∧ (stepPatch p s).flashArmed = s.flashArmed := fun p => by
    refine ⟨retime_sendPatch { s with patch := p } a f b n, ?_⟩
    unfold stepPatch
    rw [sendPatch_frame]
    exact ⟨rfl, rfl⟩
  have hexit : configExit (s.retime a f b n) = (configExit s).retime a f b n ∧ (configExit s).flashCnt = s.flashCnt
      ∧ ((configExit s).flashArmed = true → s.flashArmed = true) := by
    refine ⟨retime_configExit s a f b n, ?_, fun h => absurd ((configExit_flashArmed s).symm.trans h) (by decide)⟩
    show (configSave s.channel s.range s.zeroBased (stopFlash s)).flashCnt = _
    rw [(storeEffect_configSave s.channel s.range s.zeroBased (stopFlash s)).frame]
    rfl
  cases m <;> cases ev
  case startupConfig.up | startupConfig.down | startupConfig.mode | normal.mode => exact .inl rfl
  case startupConfig.none | configChannel.up | configChannel.down | configChannel.mode | configDisplay.up | configDisplay.down
      | normal.none | mode2.none | mode2.up | mode2.down => exact .inr ⟨rfl, rfl, id⟩
  case configChannel.none | configDisplay.none | configDisplay.mode => exact .inr hexit
  case normal.up | normal.down =>
    obtain ⟨h, hcnt, harm⟩ := hstep _
    exact .inr ⟨h, hcnt, fun ha => harm ▸ ha⟩
  case mode2.mode =>
    obtain ⟨h, hcnt, _⟩ := hstep s.work
    refine .inr ⟨?_, hcnt, fun ha => (nomatch ha)⟩
    show (stopFlash (stepPatch s.work (s.retime a f b n))).goto .normal = _
    rw [h]
    rfl

end Retime

/-- The times and the records that a route leaves as they are. -/
theorem performRoute_times (m : Mode) (ev : Event) (s : State) :
    (performRoute m ev s).cfg = s.cfg ∧ (performRoute m ev s).ms = s.ms ∧ (performRoute m ev s).sw = s.sw
      ∧ (performRoute m ev s).scanStart = s.scanStart ∧ (performRoute m ev s).scanActive = s.scanActive := by
  rw [(routeEffect_performRoute m ev s).frame]
  exact ⟨rfl, rfl, rfl, rfl, rfl⟩

/-! ## Shifted times -/

/-- A switch record with its timestamps shifted. -/
def Switch.shift (w k : Nat) (x : Switch) : Switch :=
  { x with downSince := (x.downSince + k) % 2 ^ w, firstDown := (x.firstDown + k) % 2 ^ w }

theorem get_shiftTime (k : Nat) (s : State) (r : Role) : (shiftTime k s).sw.get r = (s.sw.get r).shift s.cfg.width k := by
  cases r <;> rfl

/-- A shift of the state is a change of its times, the same for states with the same times. -/
theorem shiftTime_eq_retime {k : Nat} {s t : State} (hcfg : t.cfg = s.cfg) (hms : t.ms = s.ms) (hsw : t.sw = s.sw)
    (hstart : t.scanStart = s.scanStart) :
    shiftTime k t = t.retime (shiftTime k s).ms (shiftTime k s).sw (shiftTime k s).scanStart t.flashCnt := by
  unfold shiftTime State.retime
  rw [hcfg, hms, hsw, hstart]

theorem shiftTime_performRoute (k : Nat) (m : Mode) (ev : Event) (s : State) :
    performRoute m ev (shiftTime k s) = shiftTime k (performRoute m ev s) := by
  obtain ⟨hcfg, hms, hsw, hstart, _⟩ := performRoute_times m ev s
  have hs : shiftTime k s = s.retime (shiftTime k s).ms (shiftTime k s).sw (shiftTime k s).scanStart s.flashCnt := rfl
  rw [shiftTime_eq_retime hcfg hms hsw hstart, hs]
  rcases retime_performRoute s (shiftTime k s).ms (shiftTime k s).sw (shiftTime k s).scanStart s.flashCnt m ev with h | ⟨h, hcnt, _⟩
  · exact h
  · rw [hcnt]
    exact h

theorem shiftTime_exceeds (w k now t : Nat) (n : BitVec 16) :
    exceeds w ((now + k) % 2 ^ w) ((t + k) % 2 ^ w) n = exceeds w now t n := by
  rw [exceeds, elapsed_shift]
  rfl

theorem shiftTime_accelerated (k : Nat) (c : Config) (now t : Nat) (acc : Bool) :
    accelerated c ((now + k) % 2 ^ c.width) ((t + k) % 2 ^ c.width) acc = accelerated c now t acc := by
  rw [accelerated, shiftTime_exceeds]
  rfl

theorem shiftTime_evalConfirm (k : Nat) (r : Role) (s : State) :
    evalConfirm r (shiftTime k s).ms (shiftTime k s) = shiftTime k (evalConfirm r s.ms s) := by
  have htest : exceeds (shiftTime k s).cfg.width (shiftTime k s).ms ((shiftTime k s).sw.get r).downSince
      (shiftTime k s).cfg.debounceMs = exceeds s.cfg.width s.ms (s.sw.get r).downSince s.cfg.debounceMs := by
    rw [get_shiftTime]
    exact shiftTime_exceeds ..
  rw [evalConfirm, evalConfirm, htest]
  split
  · cases r <;> rfl
  · rfl

theorem shiftTime_evalRepeat (k : Nat) (r : Role) (s : State) :
    evalRepeat r (shiftTime k s).ms (shiftTime k s) = shiftTime k (evalRepeat r s.ms s) := by
  have hacc : accelerated (shiftTime k s).cfg (shiftTime k s).ms ((shiftTime k s).sw.get r).firstDown (shiftTime k s).periodAcc
      = accelerated s.cfg s.ms (s.sw.get r).firstDown s.periodAcc := by
    rw [get_shiftTime]
    exact shiftTime_accelerated ..
  have htest : ∀ n, exceeds (shiftTime k s).cfg.width (shiftTime k s).ms ((shiftTime k s).sw.get r).downSince n
      = exceeds s.cfg.width s.ms (s.sw.get r).downSince n := fun n => by
    rw [get_shiftTime]
    exact shiftTime_exceeds ..
  unfold evalRepeat
  dsimp only
  rw [hacc, htest]
  show (if exceeds s.cfg.width s.ms (s.sw.get r).downSince (periodOf s.cfg _) then _ else _) = _
  split
  · cases r <;> rfl
  · rfl

theorem shiftTime_evalSwitch (k : Nat) (r : Role) (pins : Pins) (s : State) :
    evalSwitch r (shiftTime k s).ms pins (shiftTime k s) = shiftTime k (evalSwitch r s.ms pins s) := by
  have hst : ((shiftTime k s).sw.get r).st = (s.sw.get r).st := by rw [get_shiftTime]; rfl
  have hcfg : (shiftTime k s).cfg = s.cfg := rfl
  have har : (shiftTime k s).scanAr = s.scanAr := rfl
  unfold evalSwitch
  rw [hst, hcfg, har, shiftTime_evalConfirm, shiftTime_evalRepeat]
  split
  · rfl
  split
  · cases r <;> rfl
  split
  · cases r <;> rfl
  split
  · rfl
  split <;> rfl

theorem shiftTime_endIteration (k : Nat) (s : State) : endIteration (shiftTime k s) = shiftTime k (endIteration s) := by
  have htest : timedOut (shiftTime k s).cfg.width (shiftTime k s).ms (shiftTime k s).scanStart (shiftTime k s).scanTimeout
      = timedOut s.cfg.width s.ms s.scanStart s.scanTimeout := by
    show timedOut s.cfg.width ((s.ms + k) % 2 ^ s.cfg.width) ((s.scanStart + k) % 2 ^ s.cfg.width) s.scanTimeout = _
    rw [timedOut, elapsed_shift]
    rfl
  rw [endIteration, endIteration, htest, refreshIntensity_eq, refreshIntensity_eq]
  split <;> rfl

theorem nextMs_shift (w k now : Nat) : nextMs w ((now + k) % 2 ^ w) = (nextMs w now + k) % 2 ^ w := by
  rw [nextMs, nextMs, Nat.mod_add_mod, Nat.mod_add_mod, Nat.add_right_comm]

theorem shiftTime_tick (k : Nat) (s : State) :
    tickActivity (tickFlash (tickTimeBase (shiftTime k s))) = shiftTime k (tickActivity (tickFlash (tickTimeBase s))) := by
  have hbase : tickTimeBase (shiftTime k s) = shiftTime k (tickTimeBase s) := by
    unfold tickTimeBase
    rw [show nextMs (shiftTime k s).cfg.width (shiftTime k s).ms = _ from nextMs_shift s.cfg.width k s.ms]
    rfl
  have hflash : ∀ u : State, tickFlash (shiftTime k u) = shiftTime k (tickFlash u) := fun u => by
    show (if u.flashArmed then if u.flashCnt - 1 = 0 then _ else _ else _) = shiftTime k (tickFlash u)
    unfold tickFlash
    split
    · split <;> rfl
    · rfl
  have hactivity : ∀ u : State, tickActivity (shiftTime k u) = shiftTime k (tickActivity u) := fun u => by
    show (if u.cfg.extIndicator && !u.flashArmed && u.actCnt != 0 then _ else _) = shiftTime k (tickActivity u)
    unfold tickActivity
    split <;> rfl
  rw [hbase, hflash, hactivity]

theorem shiftTime_effects (k : Nat) (s : State) : EffectsRelated (fun t t' => t' = shiftTime k t) s (shiftTime k s) where
  tick := shiftTime_tick k s
  dload _ := rfl
  dwait _ := rfl
  sbegin _ _ := rfl
  eval q pins := shiftTime_evalSwitch k q pins s
  pend _ := shiftTime_endIteration k s
  fstart := rfl
  fstop := rfl
  act := by rw [startActivity_eq, startActivity_eq]; rfl
  boot := by rw [bootUp_eq, bootUp_eq]; rfl
  deliver m ev := shiftTime_performRoute k m ev { s with scanDone := false }
  route m ev := shiftTime_performRoute k m ev s

/-- Settles O58: the shifted state takes the same decisions, and every effect commutes with the shift. -/
theorem behaviourIsTheSameFromEveryCounterValue : Obligations.BehaviourIsTheSameFromEveryCounterValue := by
  intro i k s
  have hcontrol : SameControl s (shiftTime k s) := ⟨rfl, rfl, rfl, rfl, rfl, rfl, rfl, rfl, rfl, rfl⟩
  have hrel := (shiftTime_effects k s).exec hcontrol i
  generalize exec i s = x at hrel ⊢
  generalize exec i (shiftTime k s) = y at hrel ⊢
  cases hrel with
  | next h => rw [h]; rfl
  | refused r => rfl

/-! ## Cleared registers -/

theorem Switch.live_st (x : Switch) : x.live.st = x.st := by
  unfold Switch.live
  split <;> rfl

theorem Switch.live_of_pressed {x : Switch} (h : x.st ≠ SwitchState.released.code) : x.live = x := if_neg h

theorem Switch.live_of_released {x : Switch} (h : x.st = SwitchState.released.code) :
    x.live = { st := SwitchState.released.code, downSince := 0, firstDown := 0 } := by
  rw [Switch.live, if_pos h, h]

@[simp] theorem Switch.live_live (x : Switch) : x.live.live = x.live := by
  by_cases h : x.st = SwitchState.released.code
  · rw [Switch.live_of_released (x.live_st.trans h), Switch.live_of_released h]
  · rw [Switch.live_of_pressed h, Switch.live_of_pressed h]

theorem get_liveState (s : State) (r : Role) : (liveState s).sw.get r = (s.sw.get r).live := by cases r <;> rfl

/-- The second state agrees with the first but for what is cleared. -/
def LiveEq (s s' : State) : Prop := liveState s' = liveState s

/-- Other timestamps of released switches, another `scan_start` outside a scan and another `flash_cnt` while not armed. -/
theorem liveEq_retime {t : State} {f : SwitchFile} {b : Nat} {n : BitVec 16} (hf : ∀ r, (f.get r).live = (t.sw.get r).live)
    (hb : t.scanActive = true → b = t.scanStart) (hn : t.flashArmed = true → n = t.flashCnt) : LiveEq t (t.retime t.ms f b n) := by
  have hstart : (if t.scanActive then b else 0) = if t.scanActive then t.scanStart else 0 := ite_congr rfl hb fun _ => rfl
  have hcount : (if t.flashArmed then n else 0) = if t.flashArmed then t.flashCnt else 0 := ite_congr rfl hn fun _ => rfl
  have hup : f.up.live = t.sw.up.live := hf .up
  have hdown : f.down.live = t.sw.down.live := hf .down
  have hmode : f.mode.live = t.sw.mode.live := hf .mode
  unfold LiveEq liveState State.retime
  dsimp only
  rw [hstart, hcount, hup, hdown, hmode]

/-- What is cleared of a state is cleared of any state with the same records, scan and flash registers. -/
theorem liveEq_retime_liveState {s t : State} (hms : t.ms = s.ms) (hsw : t.sw = s.sw)
    (hscan : t.scanActive = true → s.scanActive = true) (hstart : t.scanStart = s.scanStart) {n : BitVec 16}
    (hn : t.flashArmed = true → n = t.flashCnt) : LiveEq t (t.retime s.ms (liveState s).sw (liveState s).scanStart n) := by
  rw [← hms]
  refine liveEq_retime (fun r => ?_) (fun ha => ?_) hn
  · rw [get_liveState, Switch.live_live, hsw]
  · exact (if_pos (hscan ha)).trans hstart.symm

theorem liveEq_liveState (s : State) : LiveEq s (liveState s) :=
  liveEq_retime_liveState rfl rfl id rfl fun ha => if_pos ha

/-- An effect that commutes with clearing is the same after it. -/
theorem liveEq_of_commutes {f : State → State} {s : State} (h : f (liveState s) = liveState (f s)) :
    LiveEq (f s) (f (liveState s)) := by
  rw [h]
  exact liveEq_liveState (f s)

/-- A change that acts on the cleared state keeps the agreement. -/
theorem LiveEq.map {s s' : State} (h : LiveEq s s') {g : State → State} (f : State → State)
    (hg : ∀ u, liveState (g u) = f (liveState u)) : LiveEq (g s) (g s') := by
  have h' : liveState s' = liveState s := h
  rw [LiveEq, hg, hg, h']

theorem LiveEq.advance {s s' : State} (h : LiveEq s s') : LiveEq (advance s) (advance s') := h.map Machine.advance fun _ => rfl

theorem LiveEq.setPeriodAcc {s s' : State} (h : LiveEq s s') (acc : Bool) :
    LiveEq { s with periodAcc := acc } { s' with periodAcc := acc } :=
  h.map (g := fun u => { u with periodAcc := acc }) (fun u => { u with periodAcc := acc }) fun _ => rfl

/-- A replaced record is cleared as the record put in. -/
theorem LiveEq.setSwitch {s s' : State} (h : LiveEq s s') (r : Role) {x x' : Switch} (hx : x'.live = x.live) :
    LiveEq (s.setSwitch r x) (s'.setSwitch r x') := by
  have hset : ∀ (u : State) (y : Switch), liveState (u.setSwitch r y) = (liveState u).setSwitch r y.live := fun u y => by
    cases r <;> rfl
  have h' : liveState s' = liveState s := h
  rw [LiveEq, hset, hset, hx, h']

/-- The end of a scan by an activation clears the start of the scan. -/
theorem LiveEq.qualify {s s' : State} (h : LiveEq s s') (r : Role) : LiveEq (qualify r s) (qualify r s') :=
  h.map (fun u => { Machine.qualify r u with scanStart := 0 }) fun _ => rfl

theorem liveEq_performRoute (m : Mode) (ev : Event) (s : State) : LiveEq (performRoute m ev s) (performRoute m ev (liveState s)) := by
  obtain ⟨_, hms, hsw, hstart, hactive⟩ := performRoute_times m ev s
  have hs : liveState s = s.retime s.ms (liveState s).sw (liveState s).scanStart (liveState s).flashCnt := rfl
  rw [hs]
  rcases retime_performRoute s s.ms (liveState s).sw (liveState s).scanStart (liveState s).flashCnt m ev with h | ⟨h, hcnt, harm⟩
    <;> rw [h]
  · exact liveEq_retime_liveState hms hsw (fun ha => hactive.symm.trans ha) hstart fun _ => rfl
  · exact liveEq_retime_liveState hms hsw (fun ha => hactive.symm.trans ha) hstart fun ha => (if_pos (harm ha)).trans hcnt.symm

/-- A switch is confirmed by its timestamp, which is kept while it is pressed (42_debounce.md R104). -/
theorem liveEq_evalConfirm {r : Role} {s : State} (hst : (s.sw.get r).st = SwitchState.pressedUnconfirmed.code) :
    LiveEq (evalConfirm r s.ms s) (evalConfirm r s.ms (liveState s)) := by
  have hget : (liveState s).sw.get r = s.sw.get r := by
    rw [get_liveState, Switch.live_of_pressed (by rw [hst]; decide)]
  have hcfg : (liveState s).cfg = s.cfg := rfl
  rw [evalConfirm, evalConfirm, hget, hcfg]
  split
  · exact ((liveEq_liveState s).setSwitch r rfl).qualify r
  · exact (liveEq_liveState s).advance

theorem liveEq_evalRepeat {r : Role} {s : State} (hst : (s.sw.get r).st ≠ SwitchState.released.code) :
    LiveEq (evalRepeat r s.ms s) (evalRepeat r s.ms (liveState s)) := by
  have hget : (liveState s).sw.get r = s.sw.get r := by rw [get_liveState, Switch.live_of_pressed hst]
  have hcfg : (liveState s).cfg = s.cfg := rfl
  have hacc : (liveState s).periodAcc = s.periodAcc := rfl
  rw [evalRepeat, evalRepeat, hget, hcfg, hacc]
  dsimp only
  have hset := (liveEq_liveState s).setPeriodAcc (accelerated s.cfg s.ms (s.sw.get r).firstDown s.periodAcc)
  split
  · exact (hset.setSwitch r rfl).qualify r
  · exact hset.advance

/-- A released record is cleared whatever its timestamps are. -/
theorem Switch.live_release (x : Switch) : ({ x with st := SwitchState.released.code } : Switch).live
    = { st := SwitchState.released.code, downSince := 0, firstDown := 0 } := Switch.live_of_released rfl

theorem liveEq_evalRelease (r : Role) (s : State) : LiveEq (evalRelease r s) (evalRelease r (liveState s)) := by
  have hset : LiveEq (s.setSwitch r { s.sw.get r with st := SwitchState.released.code })
      ((liveState s).setSwitch r { (liveState s).sw.get r with st := SwitchState.released.code }) :=
    (liveEq_liveState s).setSwitch r (by rw [Switch.live_release, Switch.live_release])
  exact (hset.setPeriodAcc false).advance

theorem liveEq_evalCombined (s : State) : LiveEq (evalCombined s) (evalCombined (liveState s)) := by
  have hset := ((liveEq_liveState s).setSwitch .up (x := { s.sw.up with st := SwitchState.released.code })
    (x' := { (liveState s).sw.up with st := SwitchState.released.code }) (by rw [Switch.live_release, Switch.live_release])).setSwitch
    .down (x := { s.sw.down with st := SwitchState.released.code })
    (x' := { (liveState s).sw.down with st := SwitchState.released.code }) (by rw [Switch.live_release, Switch.live_release])
  exact (hset.setPeriodAcc false).advance

theorem liveEq_evalSwitch (r : Role) (pins : Pins) (s : State) :
    LiveEq (evalSwitch r s.ms pins s) (evalSwitch r (liveState s).ms pins (liveState s)) := by
  have hst : ((liveState s).sw.get r).st = (s.sw.get r).st := by rw [get_liveState, Switch.live_st]
  have hcfg : (liveState s).cfg = s.cfg := rfl
  have har : (liveState s).scanAr = s.scanAr := rfl
  have hms : (liveState s).ms = s.ms := rfl
  unfold evalSwitch
  rw [hst, hcfg, har, hms]
  split
  · exact liveEq_evalCombined s
  split
  · exact liveEq_evalRelease r s
  split
  · exact ((liveEq_liveState s).setSwitch r rfl).advance
  split
  · exact liveEq_evalConfirm ‹_›
  split
  · exact liveEq_evalRepeat ‹_›
  · exact (liveEq_liveState s).advance

/-- The timeout is tested while the scan runs, when `scan_start` is kept (42_debounce.md R110). -/
theorem liveEq_endIteration {s : State} (ha : s.scanActive = true) : LiveEq (endIteration s) (endIteration (liveState s)) := by
  have hstart : (liveState s).scanStart = s.scanStart := if_pos ha
  have hcfg : (liveState s).cfg = s.cfg := rfl
  have hms : (liveState s).ms = s.ms := rfl
  have htimeout : (liveState s).scanTimeout = s.scanTimeout := rfl
  have hrefresh : LiveEq (refreshIntensity s) (refreshIntensity (liveState s)) :=
    liveEq_of_commutes (by rw [refreshIntensity_eq, refreshIntensity_eq]; rfl)
  rw [endIteration, endIteration, hstart, hcfg, hms, htimeout]
  split
  · exact hrefresh.map (fun u => { endByTimeout u with scanStart := 0 }) fun _ => rfl
  · exact hrefresh.map nextIteration fun _ => rfl

/-- TICK reads `flash_cnt` while armed only (43_flash.md R123). -/
theorem liveState_tick (s : State) :
    tickActivity (tickFlash (tickTimeBase (liveState s))) = liveState (tickActivity (tickFlash (tickTimeBase s))) := by
  have hflash : ∀ u : State, tickFlash (liveState u) = liveState (tickFlash u) := fun u => by
    unfold tickFlash
    cases harm : u.flashArmed
    · have harm' : (liveState u).flashArmed = false := harm
      rw [harm', if_neg (by decide), if_neg (by decide)]
    · have harm' : (liveState u).flashArmed = true := harm
      have hcount : (liveState u).flashCnt = u.flashCnt := if_pos harm
      rw [harm', if_pos rfl, if_pos rfl, hcount]
      split <;> simp [liveState, toggleFlash, harm]
  have hactivity : ∀ u : State, tickActivity (liveState u) = liveState (tickActivity u) := fun u => by
    show (if u.cfg.extIndicator && !u.flashArmed && u.actCnt != 0 then _ else _) = liveState (tickActivity u)
    unfold tickActivity
    split <;> rfl
  have hbase : tickTimeBase (liveState s) = liveState (tickTimeBase s) := rfl
  rw [hbase, hflash, hactivity]

theorem liveState_effects (s : State) : EffectsRelated LiveEq s (liveState s) where
  tick := by rw [liveState_tick]; exact liveEq_liveState _
  dload _ := liveEq_of_commutes (f := fun u => { u with delayCnt := _ }) rfl
  dwait _ := liveEq_of_commutes (f := fun u => { u with held := _ }) rfl
  sbegin _ _ := liveEq_of_commutes rfl
  eval q pins := liveEq_evalSwitch q pins s
  pend ha := liveEq_endIteration ha
  fstart := liveEq_of_commutes rfl
  fstop := liveEq_retime_liveState (s := s) (t := stopFlash s) rfl rfl id rfl (fun ha => (nomatch ha))
  act := liveEq_of_commutes (by rw [startActivity_eq, startActivity_eq]; rfl)
  boot := liveEq_of_commutes (by rw [bootUp_eq, bootUp_eq]; rfl)
  deliver m ev := liveEq_performRoute m ev { s with scanDone := false }
  route m ev := liveEq_performRoute m ev s

/-- The reserved code is not cleared (30_encoding.md R78). -/
theorem legal_liveState (s : State) : (liveState s).sw.legal = s.sw.legal := by
  show (Switch.legal s.sw.up.live && Switch.legal s.sw.down.live && Switch.legal s.sw.mode.live) = _
  rw [Switch.legal, Switch.legal, Switch.legal, Switch.live_st, Switch.live_st, Switch.live_st]
  rfl

/-- Settles O59: the cleared state takes the same decisions, and every effect agrees but for what is cleared. -/
theorem unspecifiedRegistersAreNeverRead : Obligations.UnspecifiedRegistersAreNeverRead := by
  intro i s
  have hcontrol : SameControl s (liveState s) := ⟨rfl, rfl, rfl, rfl, rfl, rfl, rfl, rfl, rfl, legal_liveState s⟩
  have hrel := (liveState_effects s).exec hcontrol i
  generalize exec i s = x at hrel ⊢
  generalize exec i (liveState s) = y at hrel ⊢
  cases hrel with
  | next h => exact congrArg Host.Outcome.next h
  | refused r => rfl

end Sys2Proof.Machine
